-- ==== Sys2Proof/Word.lean ====
section
/-! DEFINITION. The word types of the X16 CORE (`00_scope.md` R9, R13): plain bit vectors of fixed width. -/

namespace Sys2Proof

/-- A byte: the data width of the CPU, of memory and of the video registers. -/
abbrev Byte := BitVec 8

/-- A 16-bit value: the program counter and the CPU addresses. -/
abbrev Word := BitVec 16

/-- A 17-bit value: an address of video space. -/
abbrev VAddr := BitVec 17

/-- A 32-bit counter. -/
abbrev Counter := BitVec 32

end Sys2Proof
end

