-- ==== Sys2Proof/Syntax.lean ====
section
/-! DEFINITION. The instruction set as data: one constructor per row of `opcode_table.json` (`30_encoding.md` R168,
R169), its operand bytes as arguments (R142, R143): `v` an immediate, `z` a zero-page address, `a` a 16-bit address
(low byte first in memory), `r` a signed 8-bit branch offset. The names give the mode as R145 abbreviates it. -/

namespace Sys2Proof

/-- The instructions of the X16 CORE: 211 mapped opcodes and the 45 unmapped ones, which execute too (R147). -/
inductive Instr where
  -- Load and store (`40_load_store.md`)
  /-- $A1 `LDA (z,X)` -/
  | ldaIndX (z : Byte)
  /-- $A5 `LDA z` -/
  | ldaZp (z : Byte)
  /-- $A9 `LDA #v` -/
  | ldaImm (v : Byte)
  /-- $AD `LDA a` -/
  | ldaAbs (a : Word)
  /-- $B1 `LDA (z),Y` -/
  | ldaIndY (z : Byte)
  /-- $B2 `LDA (z)` -/
  | ldaIzp (z : Byte)
  /-- $B5 `LDA z,X` -/
  | ldaZpX (z : Byte)
  /-- $B9 `LDA a,Y` -/
  | ldaAbsY (a : Word)
  /-- $BD `LDA a,X` -/
  | ldaAbsX (a : Word)
  /-- $A2 `LDX #v` -/
  | ldxImm (v : Byte)
  /-- $A6 `LDX z` -/
  | ldxZp (z : Byte)
  /-- $AE `LDX a` -/
  | ldxAbs (a : Word)
  /-- $B6 `LDX z,Y` -/
  | ldxZpY (z : Byte)
  /-- $BE `LDX a,Y` -/
  | ldxAbsY (a : Word)
  /-- $A0 `LDY #v` -/
  | ldyImm (v : Byte)
  /-- $A4 `LDY z` -/
  | ldyZp (z : Byte)
  /-- $AC `LDY a` -/
  | ldyAbs (a : Word)
  /-- $B4 `LDY z,X` -/
  | ldyZpX (z : Byte)
  /-- $BC `LDY a,X` -/
  | ldyAbsX (a : Word)
  /-- $81 `STA (z,X)` -/
  | staIndX (z : Byte)
  /-- $85 `STA z` -/
  | staZp (z : Byte)
  /-- $8D `STA a` -/
  | staAbs (a : Word)
  /-- $91 `STA (z),Y` -/
  | staIndY (z : Byte)
  /-- $92 `STA (z)` -/
  | staIzp (z : Byte)
  /-- $95 `STA z,X` -/
  | staZpX (z : Byte)
  /-- $99 `STA a,Y` -/
  | staAbsY (a : Word)
  /-- $9D `STA a,X` -/
  | staAbsX (a : Word)
  /-- $86 `STX z` -/
  | stxZp (z : Byte)
  /-- $8E `STX a` -/
  | stxAbs (a : Word)
  /-- $96 `STX z,Y` -/
  | stxZpY (z : Byte)
  /-- $84 `STY z` -/
  | styZp (z : Byte)
  /-- $8C `STY a` -/
  | styAbs (a : Word)
  /-- $94 `STY z,X` -/
  | styZpX (z : Byte)
  /-- $64 `STZ z` -/
  | stzZp (z : Byte)
  /-- $74 `STZ z,X` -/
  | stzZpX (z : Byte)
  /-- $9C `STZ a` -/
  | stzAbs (a : Word)
  /-- $9E `STZ a,X` -/
  | stzAbsX (a : Word)
  -- Arithmetic (`41_arithmetic.md`)
  /-- $61 `ADC (z,X)` -/
  | adcIndX (z : Byte)
  /-- $65 `ADC z` -/
  | adcZp (z : Byte)
  /-- $69 `ADC #v` -/
  | adcImm (v : Byte)
  /-- $6D `ADC a` -/
  | adcAbs (a : Word)
  /-- $71 `ADC (z),Y` -/
  | adcIndY (z : Byte)
  /-- $72 `ADC (z)` -/
  | adcIzp (z : Byte)
  /-- $75 `ADC z,X` -/
  | adcZpX (z : Byte)
  /-- $79 `ADC a,Y` -/
  | adcAbsY (a : Word)
  /-- $7D `ADC a,X` -/
  | adcAbsX (a : Word)
  /-- $E1 `SBC (z,X)` -/
  | sbcIndX (z : Byte)
  /-- $E5 `SBC z` -/
  | sbcZp (z : Byte)
  /-- $E9 `SBC #v` -/
  | sbcImm (v : Byte)
  /-- $ED `SBC a` -/
  | sbcAbs (a : Word)
  /-- $F1 `SBC (z),Y` -/
  | sbcIndY (z : Byte)
  /-- $F2 `SBC (z)` -/
  | sbcIzp (z : Byte)
  /-- $F5 `SBC z,X` -/
  | sbcZpX (z : Byte)
  /-- $F9 `SBC a,Y` -/
  | sbcAbsY (a : Word)
  /-- $FD `SBC a,X` -/
  | sbcAbsX (a : Word)
  /-- $1A `INC A` -/
  | incAcc
  /-- $E6 `INC z` -/
  | incZp (z : Byte)
  /-- $EE `INC a` -/
  | incAbs (a : Word)
  /-- $F6 `INC z,X` -/
  | incZpX (z : Byte)
  /-- $FE `INC a,X` -/
  | incAbsX (a : Word)
  /-- $3A `DEC A` -/
  | decAcc
  /-- $C6 `DEC z` -/
  | decZp (z : Byte)
  /-- $CE `DEC a` -/
  | decAbs (a : Word)
  /-- $D6 `DEC z,X` -/
  | decZpX (z : Byte)
  /-- $DE `DEC a,X` -/
  | decAbsX (a : Word)
  /-- $E8 `INX` -/
  | inx
  /-- $C8 `INY` -/
  | iny
  /-- $CA `DEX` -/
  | dex
  /-- $88 `DEY` -/
  | dey
  -- Logical (`42_logical.md`)
  /-- $21 `AND (z,X)` -/
  | andIndX (z : Byte)
  /-- $25 `AND z` -/
  | andZp (z : Byte)
  /-- $29 `AND #v` -/
  | andImm (v : Byte)
  /-- $2D `AND a` -/
  | andAbs (a : Word)
  /-- $31 `AND (z),Y` -/
  | andIndY (z : Byte)
  /-- $32 `AND (z)` -/
  | andIzp (z : Byte)
  /-- $35 `AND z,X` -/
  | andZpX (z : Byte)
  /-- $39 `AND a,Y` -/
  | andAbsY (a : Word)
  /-- $3D `AND a,X` -/
  | andAbsX (a : Word)
  /-- $01 `ORA (z,X)` -/
  | oraIndX (z : Byte)
  /-- $05 `ORA z` -/
  | oraZp (z : Byte)
  /-- $09 `ORA #v` -/
  | oraImm (v : Byte)
  /-- $0D `ORA a` -/
  | oraAbs (a : Word)
  /-- $11 `ORA (z),Y` -/
  | oraIndY (z : Byte)
  /-- $12 `ORA (z)` -/
  | oraIzp (z : Byte)
  /-- $15 `ORA z,X` -/
  | oraZpX (z : Byte)
  /-- $19 `ORA a,Y` -/
  | oraAbsY (a : Word)
  /-- $1D `ORA a,X` -/
  | oraAbsX (a : Word)
  /-- $41 `EOR (z,X)` -/
  | eorIndX (z : Byte)
  /-- $45 `EOR z` -/
  | eorZp (z : Byte)
  /-- $49 `EOR #v` -/
  | eorImm (v : Byte)
  /-- $4D `EOR a` -/
  | eorAbs (a : Word)
  /-- $51 `EOR (z),Y` -/
  | eorIndY (z : Byte)
  /-- $52 `EOR (z)` -/
  | eorIzp (z : Byte)
  /-- $55 `EOR z,X` -/
  | eorZpX (z : Byte)
  /-- $59 `EOR a,Y` -/
  | eorAbsY (a : Word)
  /-- $5D `EOR a,X` -/
  | eorAbsX (a : Word)
  -- Shift and rotate (`43_shift_rotate.md`)
  /-- $06 `ASL z` -/
  | aslZp (z : Byte)
  /-- $0A `ASL A` -/
  | aslAcc
  /-- $0E `ASL a` -/
  | aslAbs (a : Word)
  /-- $16 `ASL z,X` -/
  | aslZpX (z : Byte)
  /-- $1E `ASL a,X` -/
  | aslAbsX (a : Word)
  /-- $46 `LSR z` -/
  | lsrZp (z : Byte)
  /-- $4A `LSR A` -/
  | lsrAcc
  /-- $4E `LSR a` -/
  | lsrAbs (a : Word)
  /-- $56 `LSR z,X` -/
  | lsrZpX (z : Byte)
  /-- $5E `LSR a,X` -/
  | lsrAbsX (a : Word)
  /-- $26 `ROL z` -/
  | rolZp (z : Byte)
  /-- $2A `ROL A` -/
  | rolAcc
  /-- $2E `ROL a` -/
  | rolAbs (a : Word)
  /-- $36 `ROL z,X` -/
  | rolZpX (z : Byte)
  /-- $3E `ROL a,X` -/
  | rolAbsX (a : Word)
  /-- $66 `ROR z` -/
  | rorZp (z : Byte)
  /-- $6A `ROR A` -/
  | rorAcc
  /-- $6E `ROR a` -/
  | rorAbs (a : Word)
  /-- $76 `ROR z,X` -/
  | rorZpX (z : Byte)
  /-- $7E `ROR a,X` -/
  | rorAbsX (a : Word)
  -- Compare (`44_compare.md`)
  /-- $C1 `CMP (z,X)` -/
  | cmpIndX (z : Byte)
  /-- $C5 `CMP z` -/
  | cmpZp (z : Byte)
  /-- $C9 `CMP #v` -/
  | cmpImm (v : Byte)
  /-- $CD `CMP a` -/
  | cmpAbs (a : Word)
  /-- $D1 `CMP (z),Y` -/
  | cmpIndY (z : Byte)
  /-- $D2 `CMP (z)` -/
  | cmpIzp (z : Byte)
  /-- $D5 `CMP z,X` -/
  | cmpZpX (z : Byte)
  /-- $D9 `CMP a,Y` -/
  | cmpAbsY (a : Word)
  /-- $DD `CMP a,X` -/
  | cmpAbsX (a : Word)
  /-- $E0 `CPX #v` -/
  | cpxImm (v : Byte)
  /-- $E4 `CPX z` -/
  | cpxZp (z : Byte)
  /-- $EC `CPX a` -/
  | cpxAbs (a : Word)
  /-- $C0 `CPY #v` -/
  | cpyImm (v : Byte)
  /-- $C4 `CPY z` -/
  | cpyZp (z : Byte)
  /-- $CC `CPY a` -/
  | cpyAbs (a : Word)
  -- Branch (`45_branch.md`)
  /-- $90 `BCC r` -/
  | bcc (r : Byte)
  /-- $B0 `BCS r` -/
  | bcs (r : Byte)
  /-- $F0 `BEQ r` -/
  | beq (r : Byte)
  /-- $D0 `BNE r` -/
  | bne (r : Byte)
  /-- $30 `BMI r` -/
  | bmi (r : Byte)
  /-- $10 `BPL r` -/
  | bpl (r : Byte)
  /-- $50 `BVC r` -/
  | bvc (r : Byte)
  /-- $70 `BVS r` -/
  | bvs (r : Byte)
  /-- $80 `BRA r` -/
  | bra (r : Byte)
  /-- $0F `BBR0 z,r` -/
  | bbr0 (z : Byte) (r : Byte)
  /-- $1F `BBR1 z,r` -/
  | bbr1 (z : Byte) (r : Byte)
  /-- $2F `BBR2 z,r` -/
  | bbr2 (z : Byte) (r : Byte)
  /-- $3F `BBR3 z,r` -/
  | bbr3 (z : Byte) (r : Byte)
  /-- $4F `BBR4 z,r` -/
  | bbr4 (z : Byte) (r : Byte)
  /-- $5F `BBR5 z,r` -/
  | bbr5 (z : Byte) (r : Byte)
  /-- $6F `BBR6 z,r` -/
  | bbr6 (z : Byte) (r : Byte)
  /-- $7F `BBR7 z,r` -/
  | bbr7 (z : Byte) (r : Byte)
  /-- $8F `BBS0 z,r` -/
  | bbs0 (z : Byte) (r : Byte)
  /-- $9F `BBS1 z,r` -/
  | bbs1 (z : Byte) (r : Byte)
  /-- $AF `BBS2 z,r` -/
  | bbs2 (z : Byte) (r : Byte)
  /-- $BF `BBS3 z,r` -/
  | bbs3 (z : Byte) (r : Byte)
  /-- $CF `BBS4 z,r` -/
  | bbs4 (z : Byte) (r : Byte)
  /-- $DF `BBS5 z,r` -/
  | bbs5 (z : Byte) (r : Byte)
  /-- $EF `BBS6 z,r` -/
  | bbs6 (z : Byte) (r : Byte)
  /-- $FF `BBS7 z,r` -/
  | bbs7 (z : Byte) (r : Byte)
  -- Jump, subroutine, software interrupt (`46_jump_subroutine.md`)
  /-- $4C `JMP a` -/
  | jmpAbs (a : Word)
  /-- $6C `JMP (a)` -/
  | jmpInd (a : Word)
  /-- $7C `JMP (a,X)` -/
  | jmpAix (a : Word)
  /-- $20 `JSR a` -/
  | jsr (a : Word)
  /-- $40 `RTI` -/
  | rti
  /-- $00 `BRK` -/
  | brk
  /-- $60 `RTS` -/
  | rts
  -- Stack (`47_stack.md`)
  /-- $48 `PHA` -/
  | pha
  /-- $08 `PHP` -/
  | php
  /-- $DA `PHX` -/
  | phx
  /-- $5A `PHY` -/
  | phy
  /-- $68 `PLA` -/
  | pla
  /-- $FA `PLX` -/
  | plx
  /-- $28 `PLP` -/
  | plp
  /-- $7A `PLY` -/
  | ply
  -- Flags and transfers (`48_flag_transfer.md`)
  /-- $18 `CLC` -/
  | clc
  /-- $38 `SEC` -/
  | sec
  /-- $58 `CLI` -/
  | cli
  /-- $78 `SEI` -/
  | sei
  /-- $D8 `CLD` -/
  | cld
  /-- $F8 `SED` -/
  | sed
  /-- $B8 `CLV` -/
  | clv
  /-- $AA `TAX` -/
  | tax
  /-- $A8 `TAY` -/
  | tay
  /-- $8A `TXA` -/
  | txa
  /-- $98 `TYA` -/
  | tya
  /-- $BA `TSX` -/
  | tsx
  /-- $9A `TXS` -/
  | txs
  -- Bit and system (`49_bit_system.md`)
  /-- $24 `BIT z` -/
  | bitZp (z : Byte)
  /-- $2C `BIT a` -/
  | bitAbs (a : Word)
  /-- $34 `BIT z,X` -/
  | bitZpX (z : Byte)
  /-- $3C `BIT a,X` -/
  | bitAbsX (a : Word)
  /-- $89 `BIT #v` -/
  | bitImm (v : Byte)
  /-- $14 `TRB z` -/
  | trbZp (z : Byte)
  /-- $1C `TRB a` -/
  | trbAbs (a : Word)
  /-- $04 `TSB z` -/
  | tsbZp (z : Byte)
  /-- $0C `TSB a` -/
  | tsbAbs (a : Word)
  /-- $07 `RMB0 z` -/
  | rmb0 (z : Byte)
  /-- $17 `RMB1 z` -/
  | rmb1 (z : Byte)
  /-- $27 `RMB2 z` -/
  | rmb2 (z : Byte)
  /-- $37 `RMB3 z` -/
  | rmb3 (z : Byte)
  /-- $47 `RMB4 z` -/
  | rmb4 (z : Byte)
  /-- $57 `RMB5 z` -/
  | rmb5 (z : Byte)
  /-- $67 `RMB6 z` -/
  | rmb6 (z : Byte)
  /-- $77 `RMB7 z` -/
  | rmb7 (z : Byte)
  /-- $87 `SMB0 z` -/
  | smb0 (z : Byte)
  /-- $97 `SMB1 z` -/
  | smb1 (z : Byte)
  /-- $A7 `SMB2 z` -/
  | smb2 (z : Byte)
  /-- $B7 `SMB3 z` -/
  | smb3 (z : Byte)
  /-- $C7 `SMB4 z` -/
  | smb4 (z : Byte)
  /-- $D7 `SMB5 z` -/
  | smb5 (z : Byte)
  /-- $E7 `SMB6 z` -/
  | smb6 (z : Byte)
  /-- $F7 `SMB7 z` -/
  | smb7 (z : Byte)
  /-- $EA `NOP` -/
  | nop
  /-- $CB `WAI` -/
  | wai
  -- Unmapped opcodes (`49_bit_system.md` R341, R342)
  /-- $02 `unmapped` -/
  | unmapped02
  /-- $03 `unmapped` -/
  | unmapped03
  /-- $0B `unmapped` -/
  | unmapped0B
  /-- $13 `unmapped` -/
  | unmapped13
  /-- $1B `unmapped` -/
  | unmapped1B
  /-- $22 `unmapped` -/
  | unmapped22
  /-- $23 `unmapped` -/
  | unmapped23
  /-- $2B `unmapped` -/
  | unmapped2B
  /-- $33 `unmapped` -/
  | unmapped33
  /-- $3B `unmapped` -/
  | unmapped3B
  /-- $42 `unmapped` -/
  | unmapped42
  /-- $43 `unmapped` -/
  | unmapped43
  /-- $44 `unmapped` -/
  | unmapped44
  /-- $4B `unmapped` -/
  | unmapped4B
  /-- $53 `unmapped` -/
  | unmapped53
  /-- $54 `unmapped` -/
  | unmapped54
  /-- $5B `unmapped` -/
  | unmapped5B
  /-- $5C `unmapped` -/
  | unmapped5C
  /-- $62 `unmapped` -/
  | unmapped62
  /-- $63 `unmapped` -/
  | unmapped63
  /-- $6B `unmapped` -/
  | unmapped6B
  /-- $73 `unmapped` -/
  | unmapped73
  /-- $7B `unmapped` -/
  | unmapped7B
  /-- $82 `unmapped` -/
  | unmapped82
  /-- $83 `unmapped` -/
  | unmapped83
  /-- $8B `unmapped` -/
  | unmapped8B
  /-- $93 `unmapped` -/
  | unmapped93
  /-- $9B `unmapped` -/
  | unmapped9B
  /-- $A3 `unmapped` -/
  | unmappedA3
  /-- $AB `unmapped` -/
  | unmappedAB
  /-- $B3 `unmapped` -/
  | unmappedB3
  /-- $BB `unmapped` -/
  | unmappedBB
  /-- $C2 `unmapped` -/
  | unmappedC2
  /-- $C3 `unmapped` -/
  | unmappedC3
  /-- $D3 `unmapped` -/
  | unmappedD3
  /-- $D4 `unmapped` -/
  | unmappedD4
  /-- $DB `unmapped` -/
  | unmappedDB
  /-- $DC `unmapped` -/
  | unmappedDC
  /-- $E2 `unmapped` -/
  | unmappedE2
  /-- $E3 `unmapped` -/
  | unmappedE3
  /-- $EB `unmapped` -/
  | unmappedEB
  /-- $F3 `unmapped` -/
  | unmappedF3
  /-- $F4 `unmapped` -/
  | unmappedF4
  /-- $FB `unmapped` -/
  | unmappedFB
  /-- $FC `unmapped` -/
  | unmappedFC
deriving DecidableEq, Repr

end Sys2Proof
end

