-- ==== Sys2Proof/Decode.lean ====
section
/-! DEFINITION. The encoding (`30_encoding.md` R142 to R144, R147, R168): the opcode map, the decoder, total on any
bytes, and the encoder. One opcode byte alone decides the length and the operation; every opcode value decodes. -/

namespace Sys2Proof

/-- The 16-bit value `hi:lo` of two bytes (`00_scope.md` R13); in memory the low byte comes first (`20_memory.md` R110). -/
def wordOf (hi lo : Byte) : Word := hi ++ lo

/-- Bits 7:0 of a 16-bit value. -/
def loByte (w : Word) : Byte := w.extractLsb' 0 8

/-- Bits 15:8 of a 16-bit value. -/
def hiByte (w : Word) : Byte := w.extractLsb' 8 8

/-- Opcodes $00 to $0F of `OPCODE_MAP`; the arguments are the bytes after the opcode. -/
def opcodeRow0 : List (Byte → Byte → Instr) := [
  fun _ _ => .brk,
  fun b _ => .oraIndX b,
  fun _ _ => .unmapped02,
  fun _ _ => .unmapped03,
  fun b _ => .tsbZp b,
  fun b _ => .oraZp b,
  fun b _ => .aslZp b,
  fun b _ => .rmb0 b,
  fun _ _ => .php,
  fun b _ => .oraImm b,
  fun _ _ => .aslAcc,
  fun _ _ => .unmapped0B,
  fun b c => .tsbAbs (wordOf c b),
  fun b c => .oraAbs (wordOf c b),
  fun b c => .aslAbs (wordOf c b),
  fun b c => .bbr0 b c]

/-- Opcodes $10 to $1F of `OPCODE_MAP`; the arguments are the bytes after the opcode. -/
def opcodeRow1 : List (Byte → Byte → Instr) := [
  fun b _ => .bpl b,
  fun b _ => .oraIndY b,
  fun b _ => .oraIzp b,
  fun _ _ => .unmapped13,
  fun b _ => .trbZp b,
  fun b _ => .oraZpX b,
  fun b _ => .aslZpX b,
  fun b _ => .rmb1 b,
  fun _ _ => .clc,
  fun b c => .oraAbsY (wordOf c b),
  fun _ _ => .incAcc,
  fun _ _ => .unmapped1B,
  fun b c => .trbAbs (wordOf c b),
  fun b c => .oraAbsX (wordOf c b),
  fun b c => .aslAbsX (wordOf c b),
  fun b c => .bbr1 b c]

/-- Opcodes $20 to $2F of `OPCODE_MAP`; the arguments are the bytes after the opcode. -/
def opcodeRow2 : List (Byte → Byte → Instr) := [
  fun b c => .jsr (wordOf c b),
  fun b _ => .andIndX b,
  fun _ _ => .unmapped22,
  fun _ _ => .unmapped23,
  fun b _ => .bitZp b,
  fun b _ => .andZp b,
  fun b _ => .rolZp b,
  fun b _ => .rmb2 b,
  fun _ _ => .plp,
  fun b _ => .andImm b,
  fun _ _ => .rolAcc,
  fun _ _ => .unmapped2B,
  fun b c => .bitAbs (wordOf c b),
  fun b c => .andAbs (wordOf c b),
  fun b c => .rolAbs (wordOf c b),
  fun b c => .bbr2 b c]

/-- Opcodes $30 to $3F of `OPCODE_MAP`; the arguments are the bytes after the opcode. -/
def opcodeRow3 : List (Byte → Byte → Instr) := [
  fun b _ => .bmi b,
  fun b _ => .andIndY b,
  fun b _ => .andIzp b,
  fun _ _ => .unmapped33,
  fun b _ => .bitZpX b,
  fun b _ => .andZpX b,
  fun b _ => .rolZpX b,
  fun b _ => .rmb3 b,
  fun _ _ => .sec,
  fun b c => .andAbsY (wordOf c b),
  fun _ _ => .decAcc,
  fun _ _ => .unmapped3B,
  fun b c => .bitAbsX (wordOf c b),
  fun b c => .andAbsX (wordOf c b),
  fun b c => .rolAbsX (wordOf c b),
  fun b c => .bbr3 b c]

/-- Opcodes $40 to $4F of `OPCODE_MAP`; the arguments are the bytes after the opcode. -/
def opcodeRow4 : List (Byte → Byte → Instr) := [
  fun _ _ => .rti,
  fun b _ => .eorIndX b,
  fun _ _ => .unmapped42,
  fun _ _ => .unmapped43,
  fun _ _ => .unmapped44,
  fun b _ => .eorZp b,
  fun b _ => .lsrZp b,
  fun b _ => .rmb4 b,
  fun _ _ => .pha,
  fun b _ => .eorImm b,
  fun _ _ => .lsrAcc,
  fun _ _ => .unmapped4B,
  fun b c => .jmpAbs (wordOf c b),
  fun b c => .eorAbs (wordOf c b),
  fun b c => .lsrAbs (wordOf c b),
  fun b c => .bbr4 b c]

/-- Opcodes $50 to $5F of `OPCODE_MAP`; the arguments are the bytes after the opcode. -/
def opcodeRow5 : List (Byte → Byte → Instr) := [
  fun b _ => .bvc b,
  fun b _ => .eorIndY b,
  fun b _ => .eorIzp b,
  fun _ _ => .unmapped53,
  fun _ _ => .unmapped54,
  fun b _ => .eorZpX b,
  fun b _ => .lsrZpX b,
  fun b _ => .rmb5 b,
  fun _ _ => .cli,
  fun b c => .eorAbsY (wordOf c b),
  fun _ _ => .phy,
  fun _ _ => .unmapped5B,
  fun _ _ => .unmapped5C,
  fun b c => .eorAbsX (wordOf c b),
  fun b c => .lsrAbsX (wordOf c b),
  fun b c => .bbr5 b c]

/-- Opcodes $60 to $6F of `OPCODE_MAP`; the arguments are the bytes after the opcode. -/
def opcodeRow6 : List (Byte → Byte → Instr) := [
  fun _ _ => .rts,
  fun b _ => .adcIndX b,
  fun _ _ => .unmapped62,
  fun _ _ => .unmapped63,
  fun b _ => .stzZp b,
  fun b _ => .adcZp b,
  fun b _ => .rorZp b,
  fun b _ => .rmb6 b,
  fun _ _ => .pla,
  fun b _ => .adcImm b,
  fun _ _ => .rorAcc,
  fun _ _ => .unmapped6B,
  fun b c => .jmpInd (wordOf c b),
  fun b c => .adcAbs (wordOf c b),
  fun b c => .rorAbs (wordOf c b),
  fun b c => .bbr6 b c]

/-- Opcodes $70 to $7F of `OPCODE_MAP`; the arguments are the bytes after the opcode. -/
def opcodeRow7 : List (Byte → Byte → Instr) := [
  fun b _ => .bvs b,
  fun b _ => .adcIndY b,
  fun b _ => .adcIzp b,
  fun _ _ => .unmapped73,
  fun b _ => .stzZpX b,
  fun b _ => .adcZpX b,
  fun b _ => .rorZpX b,
  fun b _ => .rmb7 b,
  fun _ _ => .sei,
  fun b c => .adcAbsY (wordOf c b),
  fun _ _ => .ply,
  fun _ _ => .unmapped7B,
  fun b c => .jmpAix (wordOf c b),
  fun b c => .adcAbsX (wordOf c b),
  fun b c => .rorAbsX (wordOf c b),
  fun b c => .bbr7 b c]

/-- Opcodes $80 to $8F of `OPCODE_MAP`; the arguments are the bytes after the opcode. -/
def opcodeRow8 : List (Byte → Byte → Instr) := [
  fun b _ => .bra b,
  fun b _ => .staIndX b,
  fun _ _ => .unmapped82,
  fun _ _ => .unmapped83,
  fun b _ => .styZp b,
  fun b _ => .staZp b,
  fun b _ => .stxZp b,
  fun b _ => .smb0 b,
  fun _ _ => .dey,
  fun b _ => .bitImm b,
  fun _ _ => .txa,
  fun _ _ => .unmapped8B,
  fun b c => .styAbs (wordOf c b),
  fun b c => .staAbs (wordOf c b),
  fun b c => .stxAbs (wordOf c b),
  fun b c => .bbs0 b c]

/-- Opcodes $90 to $9F of `OPCODE_MAP`; the arguments are the bytes after the opcode. -/
def opcodeRow9 : List (Byte → Byte → Instr) := [
  fun b _ => .bcc b,
  fun b _ => .staIndY b,
  fun b _ => .staIzp b,
  fun _ _ => .unmapped93,
  fun b _ => .styZpX b,
  fun b _ => .staZpX b,
  fun b _ => .stxZpY b,
  fun b _ => .smb1 b,
  fun _ _ => .tya,
  fun b c => .staAbsY (wordOf c b),
  fun _ _ => .txs,
  fun _ _ => .unmapped9B,
  fun b c => .stzAbs (wordOf c b),
  fun b c => .staAbsX (wordOf c b),
  fun b c => .stzAbsX (wordOf c b),
  fun b c => .bbs1 b c]

/-- Opcodes $A0 to $AF of `OPCODE_MAP`; the arguments are the bytes after the opcode. -/
def opcodeRowA : List (Byte → Byte → Instr) := [
  fun b _ => .ldyImm b,
  fun b _ => .ldaIndX b,
  fun b _ => .ldxImm b,
  fun _ _ => .unmappedA3,
  fun b _ => .ldyZp b,
  fun b _ => .ldaZp b,
  fun b _ => .ldxZp b,
  fun b _ => .smb2 b,
  fun _ _ => .tay,
  fun b _ => .ldaImm b,
  fun _ _ => .tax,
  fun _ _ => .unmappedAB,
  fun b c => .ldyAbs (wordOf c b),
  fun b c => .ldaAbs (wordOf c b),
  fun b c => .ldxAbs (wordOf c b),
  fun b c => .bbs2 b c]

/-- Opcodes $B0 to $BF of `OPCODE_MAP`; the arguments are the bytes after the opcode. -/
def opcodeRowB : List (Byte → Byte → Instr) := [
  fun b _ => .bcs b,
  fun b _ => .ldaIndY b,
  fun b _ => .ldaIzp b,
  fun _ _ => .unmappedB3,
  fun b _ => .ldyZpX b,
  fun b _ => .ldaZpX b,
  fun b _ => .ldxZpY b,
  fun b _ => .smb3 b,
  fun _ _ => .clv,
  fun b c => .ldaAbsY (wordOf c b),
  fun _ _ => .tsx,
  fun _ _ => .unmappedBB,
  fun b c => .ldyAbsX (wordOf c b),
  fun b c => .ldaAbsX (wordOf c b),
  fun b c => .ldxAbsY (wordOf c b),
  fun b c => .bbs3 b c]

/-- Opcodes $C0 to $CF of `OPCODE_MAP`; the arguments are the bytes after the opcode. -/
def opcodeRowC : List (Byte → Byte → Instr) := [
  fun b _ => .cpyImm b,
  fun b _ => .cmpIndX b,
  fun _ _ => .unmappedC2,
  fun _ _ => .unmappedC3,
  fun b _ => .cpyZp b,
  fun b _ => .cmpZp b,
  fun b _ => .decZp b,
  fun b _ => .smb4 b,
  fun _ _ => .iny,
  fun b _ => .cmpImm b,
  fun _ _ => .dex,
  fun _ _ => .wai,
  fun b c => .cpyAbs (wordOf c b),
  fun b c => .cmpAbs (wordOf c b),
  fun b c => .decAbs (wordOf c b),
  fun b c => .bbs4 b c]

/-- Opcodes $D0 to $DF of `OPCODE_MAP`; the arguments are the bytes after the opcode. -/
def opcodeRowD : List (Byte → Byte → Instr) := [
  fun b _ => .bne b,
  fun b _ => .cmpIndY b,
  fun b _ => .cmpIzp b,
  fun _ _ => .unmappedD3,
  fun _ _ => .unmappedD4,
  fun b _ => .cmpZpX b,
  fun b _ => .decZpX b,
  fun b _ => .smb5 b,
  fun _ _ => .cld,
  fun b c => .cmpAbsY (wordOf c b),
  fun _ _ => .phx,
  fun _ _ => .unmappedDB,
  fun _ _ => .unmappedDC,
  fun b c => .cmpAbsX (wordOf c b),
  fun b c => .decAbsX (wordOf c b),
  fun b c => .bbs5 b c]

/-- Opcodes $E0 to $EF of `OPCODE_MAP`; the arguments are the bytes after the opcode. -/
def opcodeRowE : List (Byte → Byte → Instr) := [
  fun b _ => .cpxImm b,
  fun b _ => .sbcIndX b,
  fun _ _ => .unmappedE2,
  fun _ _ => .unmappedE3,
  fun b _ => .cpxZp b,
  fun b _ => .sbcZp b,
  fun b _ => .incZp b,
  fun b _ => .smb6 b,
  fun _ _ => .inx,
  fun b _ => .sbcImm b,
  fun _ _ => .nop,
  fun _ _ => .unmappedEB,
  fun b c => .cpxAbs (wordOf c b),
  fun b c => .sbcAbs (wordOf c b),
  fun b c => .incAbs (wordOf c b),
  fun b c => .bbs6 b c]

/-- Opcodes $F0 to $FF of `OPCODE_MAP`; the arguments are the bytes after the opcode. -/
def opcodeRowF : List (Byte → Byte → Instr) := [
  fun b _ => .beq b,
  fun b _ => .sbcIndY b,
  fun b _ => .sbcIzp b,
  fun _ _ => .unmappedF3,
  fun _ _ => .unmappedF4,
  fun b _ => .sbcZpX b,
  fun b _ => .incZpX b,
  fun b _ => .smb7 b,
  fun _ _ => .sed,
  fun b c => .sbcAbsY (wordOf c b),
  fun _ _ => .plx,
  fun _ _ => .unmappedFB,
  fun _ _ => .unmappedFC,
  fun b c => .sbcAbsX (wordOf c b),
  fun b c => .incAbsX (wordOf c b),
  fun b c => .bbs7 b c]

/-- `OPCODE_MAP` (R168): what each of the 256 opcode values builds from the two bytes that may follow it. -/
def opcodeMap : List (Byte → Byte → Instr) :=
  opcodeRow0 ++ opcodeRow1 ++ opcodeRow2 ++ opcodeRow3 ++ opcodeRow4 ++ opcodeRow5 ++ opcodeRow6 ++ opcodeRow7 ++
  opcodeRow8 ++ opcodeRow9 ++ opcodeRowA ++ opcodeRowB ++ opcodeRowC ++ opcodeRowD ++ opcodeRowE ++ opcodeRowF

/-- The instruction of an opcode and its operand bytes; bytes the format does not have are ignored. The map has 256
entries, so the default is never taken. -/
def decodeOp (op b c : Byte) : Instr := (opcodeMap.getD op.toNat fun _ _ => .nop) b c

/-- The words of an instruction: the opcode and its operand bytes in address order (R142 to R144). -/
def encode : Instr → List Byte
  | .ldaIndX z => [0xA1#8, z]
  | .ldaZp z => [0xA5#8, z]
  | .ldaImm v => [0xA9#8, v]
  | .ldaAbs a => [0xAD#8, loByte a, hiByte a]
  | .ldaIndY z => [0xB1#8, z]
  | .ldaIzp z => [0xB2#8, z]
  | .ldaZpX z => [0xB5#8, z]
  | .ldaAbsY a => [0xB9#8, loByte a, hiByte a]
  | .ldaAbsX a => [0xBD#8, loByte a, hiByte a]
  | .ldxImm v => [0xA2#8, v]
  | .ldxZp z => [0xA6#8, z]
  | .ldxAbs a => [0xAE#8, loByte a, hiByte a]
  | .ldxZpY z => [0xB6#8, z]
  | .ldxAbsY a => [0xBE#8, loByte a, hiByte a]
  | .ldyImm v => [0xA0#8, v]
  | .ldyZp z => [0xA4#8, z]
  | .ldyAbs a => [0xAC#8, loByte a, hiByte a]
  | .ldyZpX z => [0xB4#8, z]
  | .ldyAbsX a => [0xBC#8, loByte a, hiByte a]
  | .staIndX z => [0x81#8, z]
  | .staZp z => [0x85#8, z]
  | .staAbs a => [0x8D#8, loByte a, hiByte a]
  | .staIndY z => [0x91#8, z]
  | .staIzp z => [0x92#8, z]
  | .staZpX z => [0x95#8, z]
  | .staAbsY a => [0x99#8, loByte a, hiByte a]
  | .staAbsX a => [0x9D#8, loByte a, hiByte a]
  | .stxZp z => [0x86#8, z]
  | .stxAbs a => [0x8E#8, loByte a, hiByte a]
  | .stxZpY z => [0x96#8, z]
  | .styZp z => [0x84#8, z]
  | .styAbs a => [0x8C#8, loByte a, hiByte a]
  | .styZpX z => [0x94#8, z]
  | .stzZp z => [0x64#8, z]
  | .stzZpX z => [0x74#8, z]
  | .stzAbs a => [0x9C#8, loByte a, hiByte a]
  | .stzAbsX a => [0x9E#8, loByte a, hiByte a]
  | .adcIndX z => [0x61#8, z]
  | .adcZp z => [0x65#8, z]
  | .adcImm v => [0x69#8, v]
  | .adcAbs a => [0x6D#8, loByte a, hiByte a]
  | .adcIndY z => [0x71#8, z]
  | .adcIzp z => [0x72#8, z]
  | .adcZpX z => [0x75#8, z]
  | .adcAbsY a => [0x79#8, loByte a, hiByte a]
  | .adcAbsX a => [0x7D#8, loByte a, hiByte a]
  | .sbcIndX z => [0xE1#8, z]
  | .sbcZp z => [0xE5#8, z]
  | .sbcImm v => [0xE9#8, v]
  | .sbcAbs a => [0xED#8, loByte a, hiByte a]
  | .sbcIndY z => [0xF1#8, z]
  | .sbcIzp z => [0xF2#8, z]
  | .sbcZpX z => [0xF5#8, z]
  | .sbcAbsY a => [0xF9#8, loByte a, hiByte a]
  | .sbcAbsX a => [0xFD#8, loByte a, hiByte a]
  | .incAcc => [0x1A#8]
  | .incZp z => [0xE6#8, z]
  | .incAbs a => [0xEE#8, loByte a, hiByte a]
  | .incZpX z => [0xF6#8, z]
  | .incAbsX a => [0xFE#8, loByte a, hiByte a]
  | .decAcc => [0x3A#8]
  | .decZp z => [0xC6#8, z]
  | .decAbs a => [0xCE#8, loByte a, hiByte a]
  | .decZpX z => [0xD6#8, z]
  | .decAbsX a => [0xDE#8, loByte a, hiByte a]
  | .inx => [0xE8#8]
  | .iny => [0xC8#8]
  | .dex => [0xCA#8]
  | .dey => [0x88#8]
  | .andIndX z => [0x21#8, z]
  | .andZp z => [0x25#8, z]
  | .andImm v => [0x29#8, v]
  | .andAbs a => [0x2D#8, loByte a, hiByte a]
  | .andIndY z => [0x31#8, z]
  | .andIzp z => [0x32#8, z]
  | .andZpX z => [0x35#8, z]
  | .andAbsY a => [0x39#8, loByte a, hiByte a]
  | .andAbsX a => [0x3D#8, loByte a, hiByte a]
  | .oraIndX z => [0x01#8, z]
  | .oraZp z => [0x05#8, z]
  | .oraImm v => [0x09#8, v]
  | .oraAbs a => [0x0D#8, loByte a, hiByte a]
  | .oraIndY z => [0x11#8, z]
  | .oraIzp z => [0x12#8, z]
  | .oraZpX z => [0x15#8, z]
  | .oraAbsY a => [0x19#8, loByte a, hiByte a]
  | .oraAbsX a => [0x1D#8, loByte a, hiByte a]
  | .eorIndX z => [0x41#8, z]
  | .eorZp z => [0x45#8, z]
  | .eorImm v => [0x49#8, v]
  | .eorAbs a => [0x4D#8, loByte a, hiByte a]
  | .eorIndY z => [0x51#8, z]
  | .eorIzp z => [0x52#8, z]
  | .eorZpX z => [0x55#8, z]
  | .eorAbsY a => [0x59#8, loByte a, hiByte a]
  | .eorAbsX a => [0x5D#8, loByte a, hiByte a]
  | .aslZp z => [0x06#8, z]
  | .aslAcc => [0x0A#8]
  | .aslAbs a => [0x0E#8, loByte a, hiByte a]
  | .aslZpX z => [0x16#8, z]
  | .aslAbsX a => [0x1E#8, loByte a, hiByte a]
  | .lsrZp z => [0x46#8, z]
  | .lsrAcc => [0x4A#8]
  | .lsrAbs a => [0x4E#8, loByte a, hiByte a]
  | .lsrZpX z => [0x56#8, z]
  | .lsrAbsX a => [0x5E#8, loByte a, hiByte a]
  | .rolZp z => [0x26#8, z]
  | .rolAcc => [0x2A#8]
  | .rolAbs a => [0x2E#8, loByte a, hiByte a]
  | .rolZpX z => [0x36#8, z]
  | .rolAbsX a => [0x3E#8, loByte a, hiByte a]
  | .rorZp z => [0x66#8, z]
  | .rorAcc => [0x6A#8]
  | .rorAbs a => [0x6E#8, loByte a, hiByte a]
  | .rorZpX z => [0x76#8, z]
  | .rorAbsX a => [0x7E#8, loByte a, hiByte a]
  | .cmpIndX z => [0xC1#8, z]
  | .cmpZp z => [0xC5#8, z]
  | .cmpImm v => [0xC9#8, v]
  | .cmpAbs a => [0xCD#8, loByte a, hiByte a]
  | .cmpIndY z => [0xD1#8, z]
  | .cmpIzp z => [0xD2#8, z]
  | .cmpZpX z => [0xD5#8, z]
  | .cmpAbsY a => [0xD9#8, loByte a, hiByte a]
  | .cmpAbsX a => [0xDD#8, loByte a, hiByte a]
  | .cpxImm v => [0xE0#8, v]
  | .cpxZp z => [0xE4#8, z]
  | .cpxAbs a => [0xEC#8, loByte a, hiByte a]
  | .cpyImm v => [0xC0#8, v]
  | .cpyZp z => [0xC4#8, z]
  | .cpyAbs a => [0xCC#8, loByte a, hiByte a]
  | .bcc r => [0x90#8, r]
  | .bcs r => [0xB0#8, r]
  | .beq r => [0xF0#8, r]
  | .bne r => [0xD0#8, r]
  | .bmi r => [0x30#8, r]
  | .bpl r => [0x10#8, r]
  | .bvc r => [0x50#8, r]
  | .bvs r => [0x70#8, r]
  | .bra r => [0x80#8, r]
  | .bbr0 z r => [0x0F#8, z, r]
  | .bbr1 z r => [0x1F#8, z, r]
  | .bbr2 z r => [0x2F#8, z, r]
  | .bbr3 z r => [0x3F#8, z, r]
  | .bbr4 z r => [0x4F#8, z, r]
  | .bbr5 z r => [0x5F#8, z, r]
  | .bbr6 z r => [0x6F#8, z, r]
  | .bbr7 z r => [0x7F#8, z, r]
  | .bbs0 z r => [0x8F#8, z, r]
  | .bbs1 z r => [0x9F#8, z, r]
  | .bbs2 z r => [0xAF#8, z, r]
  | .bbs3 z r => [0xBF#8, z, r]
  | .bbs4 z r => [0xCF#8, z, r]
  | .bbs5 z r => [0xDF#8, z, r]
  | .bbs6 z r => [0xEF#8, z, r]
  | .bbs7 z r => [0xFF#8, z, r]
  | .jmpAbs a => [0x4C#8, loByte a, hiByte a]
  | .jmpInd a => [0x6C#8, loByte a, hiByte a]
  | .jmpAix a => [0x7C#8, loByte a, hiByte a]
  | .jsr a => [0x20#8, loByte a, hiByte a]
  | .rti => [0x40#8]
  | .brk => [0x00#8]
  | .rts => [0x60#8]
  | .pha => [0x48#8]
  | .php => [0x08#8]
  | .phx => [0xDA#8]
  | .phy => [0x5A#8]
  | .pla => [0x68#8]
  | .plx => [0xFA#8]
  | .plp => [0x28#8]
  | .ply => [0x7A#8]
  | .clc => [0x18#8]
  | .sec => [0x38#8]
  | .cli => [0x58#8]
  | .sei => [0x78#8]
  | .cld => [0xD8#8]
  | .sed => [0xF8#8]
  | .clv => [0xB8#8]
  | .tax => [0xAA#8]
  | .tay => [0xA8#8]
  | .txa => [0x8A#8]
  | .tya => [0x98#8]
  | .tsx => [0xBA#8]
  | .txs => [0x9A#8]
  | .bitZp z => [0x24#8, z]
  | .bitAbs a => [0x2C#8, loByte a, hiByte a]
  | .bitZpX z => [0x34#8, z]
  | .bitAbsX a => [0x3C#8, loByte a, hiByte a]
  | .bitImm v => [0x89#8, v]
  | .trbZp z => [0x14#8, z]
  | .trbAbs a => [0x1C#8, loByte a, hiByte a]
  | .tsbZp z => [0x04#8, z]
  | .tsbAbs a => [0x0C#8, loByte a, hiByte a]
  | .rmb0 z => [0x07#8, z]
  | .rmb1 z => [0x17#8, z]
  | .rmb2 z => [0x27#8, z]
  | .rmb3 z => [0x37#8, z]
  | .rmb4 z => [0x47#8, z]
  | .rmb5 z => [0x57#8, z]
  | .rmb6 z => [0x67#8, z]
  | .rmb7 z => [0x77#8, z]
  | .smb0 z => [0x87#8, z]
  | .smb1 z => [0x97#8, z]
  | .smb2 z => [0xA7#8, z]
  | .smb3 z => [0xB7#8, z]
  | .smb4 z => [0xC7#8, z]
  | .smb5 z => [0xD7#8, z]
  | .smb6 z => [0xE7#8, z]
  | .smb7 z => [0xF7#8, z]
  | .nop => [0xEA#8]
  | .wai => [0xCB#8]
  | .unmapped02 => [0x02#8]
  | .unmapped03 => [0x03#8]
  | .unmapped0B => [0x0B#8]
  | .unmapped13 => [0x13#8]
  | .unmapped1B => [0x1B#8]
  | .unmapped22 => [0x22#8]
  | .unmapped23 => [0x23#8]
  | .unmapped2B => [0x2B#8]
  | .unmapped33 => [0x33#8]
  | .unmapped3B => [0x3B#8]
  | .unmapped42 => [0x42#8]
  | .unmapped43 => [0x43#8]
  | .unmapped44 => [0x44#8]
  | .unmapped4B => [0x4B#8]
  | .unmapped53 => [0x53#8]
  | .unmapped54 => [0x54#8]
  | .unmapped5B => [0x5B#8]
  | .unmapped5C => [0x5C#8]
  | .unmapped62 => [0x62#8]
  | .unmapped63 => [0x63#8]
  | .unmapped6B => [0x6B#8]
  | .unmapped73 => [0x73#8]
  | .unmapped7B => [0x7B#8]
  | .unmapped82 => [0x82#8]
  | .unmapped83 => [0x83#8]
  | .unmapped8B => [0x8B#8]
  | .unmapped93 => [0x93#8]
  | .unmapped9B => [0x9B#8]
  | .unmappedA3 => [0xA3#8]
  | .unmappedAB => [0xAB#8]
  | .unmappedB3 => [0xB3#8]
  | .unmappedBB => [0xBB#8]
  | .unmappedC2 => [0xC2#8]
  | .unmappedC3 => [0xC3#8]
  | .unmappedD3 => [0xD3#8]
  | .unmappedD4 => [0xD4#8]
  | .unmappedDB => [0xDB#8]
  | .unmappedDC => [0xDC#8]
  | .unmappedE2 => [0xE2#8]
  | .unmappedE3 => [0xE3#8]
  | .unmappedEB => [0xEB#8]
  | .unmappedF3 => [0xF3#8]
  | .unmappedF4 => [0xF4#8]
  | .unmappedFB => [0xFB#8]
  | .unmappedFC => [0xFC#8]

/-- The number of bytes of the instructions with this opcode (R142: "The opcode byte alone decides the length"). -/
def opcodeLength (op : Byte) : Nat := (encode (decodeOp op 0 0)).length

/-- Why the decoder refuses bytes. -/
inductive DecodeError where
  /-- There is no opcode byte. Safe: nothing is read as an instruction. -/
  | noBytes
  /-- The bytes end before the operand bytes of this opcode. Safe, as above. -/
  | truncated (op : Byte)
deriving DecidableEq, Repr

/-- What the decoder answers: an instruction and the bytes after it, or a refusal by name. -/
inductive Decoded where
  | ok (i : Instr) (rest : List Byte)
  | refused (e : DecodeError)
deriving DecidableEq, Repr

/-- The decoder: total on any bytes. -/
def decode : List Byte → Decoded
  | [] => .refused .noBytes
  | op :: rest =>
    let n := opcodeLength op
    if n = 1 then .ok (decodeOp op 0 0) rest
    else if n = 2 then
      match rest with
      | b :: rest => .ok (decodeOp op b 0) rest
      | [] => .refused (.truncated op)
    else
      match rest with
      | b :: c :: rest => .ok (decodeOp op b c) rest
      | _ => .refused (.truncated op)

/-- The three bytes of a table word: bit 0 of `w` is bit 0 of the first byte, and the bits from `nbits` on are 0. -/
def tableBytes (nbits w : Nat) : List Byte :=
  let w := w % 2 ^ nbits
  [BitVec.ofNat 8 w, BitVec.ofNat 8 (w / 2 ^ 8), BitVec.ofNat 8 (w / 2 ^ 16)]

/-- The instruction the decoder reads from a word of the opcode table. -/
def decodeTableWord (nbits w : Nat) : Option Instr :=
  match decode (tableBytes nbits w) with
  | .ok i _ => some i
  | .refused _ => none

end Sys2Proof
end

