-- ==== Sys2Proof/Config.lean ====
section
/-! DEFINITION. What an implementation fixes: the parameters of `00_scope.md` R10 with their defaults, and the free
values of the external collaborators. The parameters are plain data; a machine carries one `Params` and no step
changes it (log 1). -/

namespace Sys2Proof.Config

/-- `OPCODE_DB` (`49_bit_system.md` R342): opcode $DB is an unmapped opcode, or stops the CPU until `reset()`. -/
inductive OpcodeDb where
  | nop
  | stop
deriving DecidableEq, Repr

/-- `PORT_CURSOR_BINDING` (`50_video_registers.md` R372): both data ports use the selected cursor, or port $03 uses
cursor 0 and port $04 cursor 1. -/
inductive PortBinding where
  | addrsel
  | port
deriving DecidableEq, Repr

/-- `HOST_SCHEDULE` (`60_exceptions.md` R560): what the host calls per step. `machineTick` is the reference
schedule (`cpu_tick()`, then one video step per cycle charged); `cpuTick` polls and steps the CPU only (R546);
`bareStep` is `step()` alone (`30_encoding.md` R140). In the last two the host's script drives what is left. -/
inductive Schedule where
  | machineTick
  | cpuTick
  | bareStep
deriving DecidableEq, Repr

/-- `LAYER_PIXEL_FN` (`51_renderer.md` R450): the reference function of R452 to R457, or another one, of which
nothing is known. -/
inductive LayerPixelFn where
  | reference
  | other
deriving DecidableEq, Repr

/-- The external collaborators (`50_video_registers.md` R421). -/
inductive ExtDev where
  | audio
  | via1
  | via2
  | pcm
  | spi
  | psg
deriving DecidableEq, Repr

/-- `BASE_COST[op]` (`30_encoding.md` R165), a row of sixteen opcodes a line. -/
def baseCostTable : List Nat :=
  [7, 6, 2, 2, 5, 3, 5, 5, 3, 2, 2, 2, 6, 4, 6, 5] ++
  [2, 5, 5, 2, 5, 4, 6, 5, 2, 4, 2, 2, 6, 4, 6, 5] ++
  [6, 6, 2, 2, 3, 3, 5, 5, 4, 2, 2, 2, 4, 4, 6, 5] ++
  [2, 5, 5, 2, 4, 4, 6, 5, 2, 4, 2, 2, 4, 4, 6, 5] ++
  [6, 6, 2, 2, 2, 3, 5, 5, 3, 2, 2, 2, 3, 4, 6, 5] ++
  [2, 5, 5, 2, 2, 4, 6, 5, 2, 4, 3, 2, 2, 4, 6, 5] ++
  [6, 6, 2, 2, 3, 3, 5, 5, 4, 2, 2, 2, 6, 4, 6, 5] ++
  [2, 5, 5, 2, 4, 4, 6, 5, 2, 4, 4, 2, 6, 4, 6, 5] ++
  [2, 6, 2, 2, 3, 3, 3, 5, 2, 2, 2, 2, 4, 4, 4, 5] ++
  [2, 6, 5, 2, 4, 4, 4, 5, 2, 5, 2, 2, 4, 5, 5, 5] ++
  [2, 6, 2, 2, 3, 3, 3, 5, 2, 2, 2, 2, 4, 4, 4, 5] ++
  [2, 5, 5, 2, 4, 4, 4, 5, 2, 4, 2, 2, 4, 4, 4, 5] ++
  [2, 6, 2, 2, 3, 3, 5, 5, 2, 2, 2, 3, 4, 4, 6, 5] ++
  [2, 5, 5, 2, 2, 4, 6, 5, 2, 4, 3, 2, 2, 4, 7, 5] ++
  [2, 6, 2, 2, 3, 3, 5, 5, 2, 2, 2, 2, 4, 4, 6, 5] ++
  [2, 5, 5, 2, 2, 4, 6, 5, 2, 4, 4, 2, 2, 4, 7, 5]

/-- The opcodes with `PENALTY[op] = 1`, those with a `+` in the table of `30_encoding.md` R165. -/
def penaltyOpcodes : List Nat :=
  [0x11, 0x19, 0x1D, 0x1E,
   0x31, 0x39, 0x3C, 0x3D, 0x3E,
   0x51, 0x59, 0x5D, 0x5E,
   0x71, 0x79, 0x7D, 0x7E,
   0xB1, 0xB9, 0xBC, 0xBD, 0xBE,
   0xD1, 0xD9, 0xDD,
   0xF1, 0xF9, 0xFD]

/-- The parameters of `00_scope.md` R10. A field's default is R10's; the OPEN ones are named in log 1, 4 and 5.
`BASE_COST` is a table of 256 entries (a missing entry counts 0) and `PENALTY` the list of the opcodes that pay it.
The three frequencies share one unit (kHz by default): only their ratios matter (log 18). The overscan fractions are
numerators over `overscanDenominator`.
DESIGN CHOICE (log 27): `00_scope.md` R9 calls the composed line of 640 pixels and the scan width 800 fixed and no
parameters, R10 lists `SCREEN_WIDTH` and `SCAN_WIDTH` as parameters; the model follows R10, and the defaults are R9's.
Where a rule writes 640 or 480 for the screen itself, log 31 says what another value does (DESIGN CHOICE). -/
structure Params where
  numRamBanks         : Nat := 32
  numRomBanks         : Nat := 32
  ramBankRegWidth     : Nat := 8
  baseCost            : List Nat := baseCostTable
  penalty             : List Nat := penaltyOpcodes
  decimalExtraCycle   : Nat := 0
  intEntryCycles      : Nat := 0
  waitStepCycles      : Nat := 1
  opcodeDb            : OpcodeDb := .nop
  unmappedLength      : Nat := 1
  portCursorBinding   : PortBinding := .addrsel
  cpuFreq             : Nat := 8000
  pixelFreqVga        : Nat := 25175
  pixelFreqNtsc       : Nat := 12600
  scanWidth           : Nat := 800
  scanHeight          : Nat := 525
  screenWidth         : Nat := 640
  screenHeight        : Nat := 480
  frontPorchVga       : Nat := 10
  frontPorchNtsc      : Nat := 22
  spriteBudget        : Nat := 800
  spriteLookupCost    : Nat := 1
  rasterNeedsEnable   : Bool := false
  defaultPalette      : List (BitVec 12) := []
  layerPixelFn        : LayerPixelFn := .reference
  overscanX           : Nat := 67
  overscanY           : Nat := 50
  overscanDenominator : Nat := 1000
  emuInvalidRead      : Byte := 0x00#8
  extStubs            : Bool := true
  schedule            : Schedule := .machineTick
deriving DecidableEq, Repr

/-- The parameters at their defaults. -/
def Params.default : Params := {}

/-- Free value: what an external device returns for a read of a register (`93_implementation_defined.md` U27: "any
value"). The last argument is the number of external accesses before this one, so every read is a fresh value
(log 11). -/
opaque extReadValue : ExtDev → Nat → Nat → Byte

/-- Free value: what the side-effect-free probe `ExtDebugRead(dev, reg)` returns (`20_memory.md` R117, log 11). -/
opaque extDebugValue : ExtDev → Nat → Nat → Byte

/-- Free value: the pixel of a layer under a layer pixel function other than the reference one
(`51_renderer.md` R450): "a pure function of `layer[l][0..6]` and `vram`" (log 21). -/
opaque layerPixelValue : List Byte → List (Nat × Byte) → Nat → Nat → Byte

end Sys2Proof.Config
end

