-- ==== Sys2Proof/Machine/State.lean ====
section
/-! DEFINITION. The machine state (`10_state.md`), the reasons a step can stop, and the state after reset. Plain data
only. INVENTORY.md lists every field with its rule and its reset value. -/

namespace Sys2Proof.Machine

open Sys2Proof.Config

/-- A sparse byte memory: (address, byte) pairs, addresses strictly rising, no entry equal to what an unlisted address
reads as (`Memory.wf` in `Machine/Memory.lean`). -/
abbrev Memory := List Host.Cell

/-- What an address that no entry lists reads as. DESIGN CHOICE, unsafe: the spec gives RAM no power-on contents
(`POWER_ON`, `10_state.md` R87, R89; log 3). -/
def Memory.unlisted : Byte := 0x00#8

/-- The stored status flags (`10_state.md` R33 to R40). `U` is the constant 1 and has no field (R38). -/
structure Flags where
  n : Bool
  v : Bool
  b : Bool
  d : Bool
  i : Bool
  z : Bool
  c : Bool
deriving DecidableEq, Repr

/-- The CPU (`10_state.md` R30 to R47; `stopped` is `STOPPED` of `49_bit_system.md` R342). -/
structure Cpu where
  pc      : Word
  sp      : Byte
  a       : Byte
  x       : Byte
  y       : Byte
  p       : Flags
  wait    : Bool
  stopped : Bool
  cycles  : Counter
  icount  : Counter
  goal    : Counter
deriving DecidableEq, Repr

/-- The BUS (`10_state.md` R50 to R54). A byte of bank `b` at offset `o` stands at `b * $2000 + o` of `bram` and at
`b * $4000 + o` of `rom`. `ramBank` is below `2 ^ RAM_BANK_REG_WIDTH`. -/
structure Bus where
  ram     : Memory
  bram    : Memory
  rom     : Memory
  ramBank : Nat
  romBank : BitVec 5
deriving DecidableEq, Repr

/-- An address cursor with its data latch (`10_state.md` R57, R58). -/
structure Cursor where
  addr  : VAddr
  inc   : BitVec 5
  latch : Byte
deriving DecidableEq, Repr

/-- The composer registers `composer[0 .. 7]` in order (`10_state.md` R62, `50_video_registers.md` R390 to R397). -/
structure Composer where
  video  : Byte
  hscale : Byte
  vscale : Byte
  border : Byte
  hstart : Byte
  hstop  : Byte
  vstart : Byte
  vstop  : Byte
deriving DecidableEq, Repr

/-- The seven registers of a layer in order (`10_state.md` R63, `50_video_registers.md` R400 to R406). -/
structure Layer where
  config   : Byte
  mapBase  : Byte
  tileBase : Byte
  hscrollL : Byte
  hscrollH : Byte
  vscrollL : Byte
  vscrollH : Byte
deriving DecidableEq, Repr

/-- An entry of the frame buffer: 8 bits per channel (`10_state.md` R70). -/
structure Rgb where
  r : Byte
  g : Byte
  b : Byte
deriving DecidableEq, Repr

/-- What an entry of the frame buffer reads as in a row that `Video.fb` does not list: black. DESIGN CHOICE, unsafe: the
spec gives the frame buffer no power-on contents (`POWER_ON`, `10_state.md` R70, R87, R89; log 7). -/
def Rgb.unlisted : Rgb := ⟨0x00#8, 0x00#8, 0x00#8⟩

/-- VIDEO (`10_state.md` R56 to R70). The palette and the sprite attributes are views of `vram` (R64, R65). `scan_x` is
`scanXNum / cpuFreq` (log 16). `fb` lists the rows that hold a pixel other than `Rgb.unlisted`, rows rising (log 7). -/
structure Video where
  vram             : Memory
  cur0             : Cursor
  cur1             : Cursor
  addrsel          : Bool
  dcsel            : Bool
  ien              : BitVec 4
  irqLine          : BitVec 9
  isr              : Byte
  composer         : Composer
  layer0           : Layer
  layer1           : Layer
  scanXNum         : Nat
  scanY            : Nat
  frameCount       : Nat
  spriteCollisions : Byte
  fb               : List (Nat × List Rgb)
deriving DecidableEq, Repr

/-- The emulator-control registers (`10_state.md` R76, `52_io_devices.md` R505 to R510). -/
structure Emu where
  debug       : Byte
  logVideo    : Byte
  logKeyboard : Byte
  echo        : Byte
  saveOnExit  : Byte
  gifCmd      : Byte
  keymap      : Byte
  led         : Byte
deriving DecidableEq, Repr

/-- The inputs of the CORE (`60_exceptions.md` R541 to R543). `nmiRequests` counts the `nmi_req` events not yet
answered (log 19). -/
structure Pins where
  extIrq      : Bool
  nmiRequests : Nat
  pcmFifoLow  : Bool
deriving DecidableEq, Repr

/-- One access to an external collaborator (`20_memory.md` R118): `read dev reg` or `write dev reg v`. -/
inductive ExtEvent where
  | read (dev : ExtDev) (reg : Nat)
  | write (dev : ExtDev) (reg : Nat) (v : Byte)
deriving DecidableEq, Repr

/-- What the host can do between two steps (`00_scope.md` R17, `20_memory.md` R96, `60_exceptions.md` R541 to R543,
`70_reset_and_hazards.md` R590, R593, R594). -/
inductive HostOp where
  | setExtIrq (level : Bool)
  | setPcmFifoLow (level : Bool)
  | requestNmi
  | setRamBank (v : Nat)
  | setRomBank (v : Nat)
  | cpuReset
  | videoReset
  | irq
  | nmi
  | videoSteps (n : Nat)
deriving DecidableEq, Repr

/-- The whole machine (`00_scope.md` R18: "one machine state with three components"), its parameters and its
interface. `cfg`, `script` and `ext` are the model's own fields (log 1, 10, 12). -/
structure State where
  cfg    : Params
  cpu    : Cpu
  bus    : Bus
  video  : Video
  emu    : Emu
  pins   : Pins
  ext    : List ExtEvent
  script : List (List HostOp)
deriving DecidableEq, Repr

/-- The faults of the machine: there are none. "No behaviour of this machine is a `fault`"
(`93_implementation_defined.md`, part 1; `60_exceptions.md` R570; `20_memory.md` R126). Safe: no step stops so. -/
inductive Fault where
deriving DecidableEq, Repr

/-- The refusals of the model. -/
inductive Refusal where
  /-- An arm of `exec` whose instruction has no meaning yet. No arm is one. Safe: the step gives no state. -/
  | notModelled (mnemonic : String)
  /-- Raised by the step and by `exec(budget)` when the parameters are ones a model rejects (`93_implementation_defined.md` U19,
  `60_exceptions.md` R558; log 20). Safe: the step gives no state. -/
  | invalidConfiguration
  /-- Raised by `execBudgetWithin` when the loop of `exec(budget)` (`60_exceptions.md` R558) has not ended within the
  number of CPU steps it was asked to run; no step and no meaning raises it (log 22). Safe: no state is given. -/
  | budgetUnfinished
deriving DecidableEq, Repr

/-- What a meaning or a step answers. -/
abbrev Result := Host.Outcome State Fault Refusal

/-- A layer with all registers 0 (`10_state.md` R63). -/
def Layer.zero : Layer := ⟨0, 0, 0, 0, 0, 0, 0⟩

/-- The machine at power-on (`70_reset_and_hazards.md` R592, the power-on column of `10_state.md` R87). The `POWER_ON`
items take the values named in log 2 to 7 (DESIGN CHOICE, unsafe). -/
def State.powerOn : State where
  cfg := Params.default
  cpu :=
    { pc := 0x0000#16, sp := 0x00#8, a := 0x00#8, x := 0x00#8, y := 0x00#8,
      p := ⟨false, false, false, false, false, false, false⟩,
      wait := false, stopped := false, cycles := 0#32, icount := 0#32, goal := 0#32 }
  bus := { ram := [], bram := [], rom := [], ramBank := 0, romBank := 0#5 }
  video :=
    { vram := [], cur0 := ⟨0#17, 0#5, 0x00#8⟩, cur1 := ⟨0#17, 0#5, 0x00#8⟩, addrsel := false, dcsel := false,
      ien := 0#4, irqLine := 0#9, isr := 0x00#8,
      composer := ⟨0, 128, 128, 0, 0, 160, 0, 240⟩, layer0 := Layer.zero, layer1 := Layer.zero,
      scanXNum := 0, scanY := 0, frameCount := 0, spriteCollisions := 0x00#8, fb := [] }
  emu := ⟨0, 0, 0, 0, 0, 0, 0, 0⟩
  pins := { extIrq := false, nmiRequests := 0, pcmFifoLow := false }
  ext := []
  script := []

/-- The machine right after reset: power-on, then one CPU `reset()` (R590, R592). The vector is read from ROM bank 0,
which reads $00 throughout (log 4), so `PC` is $0000; `Sys2Proof/Laws/Sound.lean` proves that this is `cpuReset powerOn`. -/
def State.reset : State :=
  { State.powerOn with cpu := { State.powerOn.cpu with sp := 0xFD#8 } }

end Sys2Proof.Machine
end

