-- ==== Sys2Proof/Machine/Bits.lean ====
section
/-! DEFINITION. Bit fields, extensions and page arithmetic (`00_scope.md` R13, R15). -/

namespace Sys2Proof.Machine

/-- `zext_16(v)` (R15). -/
def zext16 (v : Byte) : Word := v.setWidth 16

/-- `sext_16(v)` (R15). -/
def sext16 (v : Byte) : Word := v.signExtend 16

/-- `PageCross(a, b)` (R15): the upper bytes differ. -/
def pageCross (a b : Word) : Bool := decide (hiByte a ≠ hiByte b)

/-- The address `$0100 + SP` of the stack page (`10_state.md` R31). -/
def stackAddr (sp : Byte) : Word := 0x0100#16 + zext16 sp

/-- The byte with only bit `n` set, `1 << n`. -/
def bitMask (n : Nat) : Byte := 1#8 <<< n

/-- `v[n]`. -/
def testBit (v : Byte) (n : Nat) : Bool := v.getLsbD n

/-- The field `v[hi:lo]` of a byte as a number. -/
def field (v : Byte) (hi lo : Nat) : Nat := v.toNat / 2 ^ lo % 2 ^ (hi + 1 - lo)

/-- Byte `k` of a 32-bit counter, byte 0 the low one (`52_io_devices.md` R508). -/
def counterByte (c : Counter) (k : Nat) : Byte := c.extractLsb' (8 * k) 8

end Sys2Proof.Machine
end

