-- ==== Sys2Proof/Machine/Memory.lean ====
section
/-! DEFINITION. The sparse byte memories (`10_state.md` R50 to R56): reading, writing, and the canonical form that every
write keeps (`Sys2Proof/Laws/Memory.lean`). -/

namespace Sys2Proof.Machine

/-- The byte at an address. -/
def Memory.read (m : Memory) (a : Nat) : Byte :=
  match m with
  | [] => Memory.unlisted
  | (b, w) :: m => if b = a then w else Memory.read m a

/-- Lists the byte `v` at address `a`, in its place. -/
def Memory.insert (m : Memory) (a : Nat) (v : Byte) : Memory :=
  match m with
  | [] => [(a, v)]
  | (b, w) :: m =>
    if a < b then (a, v) :: (b, w) :: m
    else if a = b then (a, v) :: m
    else (b, w) :: Memory.insert m a v

/-- Writes a byte. Writing what an unlisted address reads as unlists the address. -/
def Memory.write (m : Memory) (a : Nat) (v : Byte) : Memory :=
  if v = Memory.unlisted then m.filter (fun c => c.1 != a) else m.insert a v

/-- Writes bytes at rising addresses from `a` on. -/
def Memory.writeAll (m : Memory) (a : Nat) (bytes : List Byte) : Memory :=
  match bytes with
  | [] => m
  | v :: bytes => Memory.writeAll (m.write a v) (a + 1) bytes

/-- Addresses strictly rising from `low` on, and no entry that reads as an unlisted one. -/
def Memory.rising (low : Nat) (m : Memory) : Bool :=
  match m with
  | [] => true
  | (a, v) :: m => decide (low ≤ a) && decide (v ≠ Memory.unlisted) && Memory.rising (a + 1) m

/-- The canonical form: two memories in it with the same bytes are the same list. -/
def Memory.wf (m : Memory) : Bool := Memory.rising 0 m

/-- Every listed address lies below `size`. -/
def Memory.below (size : Nat) (m : Memory) : Bool := m.all (fun c => decide (c.1 < size))

end Sys2Proof.Machine
end

