-- ==== Sys2Proof/Machine/Video.lean ====
section
/-! DEFINITION. The video register file, the two cursors into video space, the data ports and the video reset
(`50_video_registers.md` R360 to R399, R410; `10_state.md` R56 to R75). -/

namespace Sys2Proof.Machine

open Sys2Proof.Config

/-- The sixteen kinds of video register (R360). `data one` is port $03 (`false`) or $04 (`true`), `dc k` is register
$09 + k, `layer one k` register k of layer 0 or 1, `pcm k` and `spi k` registers of the external collaborators. -/
inductive VideoReg where
  | addrL
  | addrM
  | addrH
  | data (one : Bool)
  | ctrl
  | ien
  | isr
  | irqLineL
  | dc (k : Nat)
  | layer (one : Bool) (k : Nat)
  | pcm (k : Nat)
  | spi (k : Nat)
deriving DecidableEq, Repr

/-- Which register the low five bits of an address select (R360). -/
def videoReg (reg : Nat) : VideoReg :=
  if reg = 0x00 then .addrL
  else if reg = 0x01 then .addrM
  else if reg = 0x02 then .addrH
  else if reg = 0x03 then .data false
  else if reg = 0x04 then .data true
  else if reg = 0x05 then .ctrl
  else if reg = 0x06 then .ien
  else if reg = 0x07 then .isr
  else if reg = 0x08 then .irqLineL
  else if reg ≤ 0x0C then .dc (reg - 0x09)
  else if reg ≤ 0x13 then .layer false (reg - 0x0D)
  else if reg ≤ 0x1A then .layer true (reg - 0x14)
  else if reg ≤ 0x1D then .pcm (reg - 0x1B)
  else .spi (reg - 0x1E)

/-! ### Cursors (R366 to R376) -/

/-- Cursor 0 or 1. -/
def Video.cursor (v : Video) (one : Bool) : Cursor := if one then v.cur1 else v.cur0

/-- Replaces cursor 0 or 1. -/
def Video.setCursor (v : Video) (one : Bool) (c : Cursor) : Video :=
  if one then { v with cur1 := c } else { v with cur0 := c }

/-- `INC_TABLE` (R371): the signed step of each increment code. -/
def incTable : List Int :=
  [0, 0, 1, -1, 2, -2, 4, -4, 8, -8, 16, -16, 32, -32, 64, -64] ++
  [128, -128, 256, -256, 512, -512, 40, -40, 80, -80, 160, -160, 320, -320, 640, -640]

/-- The step of an increment code. -/
def incStep (code : BitVec 5) : Int := incTable.getD code.toNat 0

/-- `VSpaceRead(a)` (R370). -/
def Video.vspaceRead (v : Video) (a : VAddr) : Byte := v.vram.read a.toNat

/-- `ReloadLatch(c)` (R369). -/
def Video.reloadLatch (v : Video) (one : Bool) : Video :=
  let c := v.cursor one
  v.setCursor one { c with latch := v.vspaceRead c.addr }

/-- Moves a cursor by its step, modulo 2^17, and reloads its latch (R373 to R375). -/
def Video.advance (v : Video) (one : Bool) : Video :=
  let c := v.cursor one
  (v.setCursor one { c with addr := c.addr + BitVec.ofInt 17 (incStep c.inc) }).reloadLatch one

/-- Which cursor a data port uses (R372). -/
def Video.portCursor (v : Video) (cfg : Params) (port : Bool) : Bool :=
  match cfg.portCursorBinding with
  | .addrsel => v.addrsel
  | .port => port

/-- Writes one of the three address bytes of the selected cursor and reloads its latch (R362, R366 to R369). -/
def Video.writeAddr (v : Video) (f : Cursor → Cursor) : Video :=
  (v.setCursor v.addrsel (f (v.cursor v.addrsel))).reloadLatch v.addrsel

/-- ADDR_L (R366): replaces bits 7:0 of the address. -/
def Cursor.writeLow (v : Byte) (c : Cursor) : Cursor :=
  { c with addr := c.addr.extractLsb' 8 9 ++ v }

/-- ADDR_M (R367): replaces bits 15:8 of the address. -/
def Cursor.writeMid (v : Byte) (c : Cursor) : Cursor :=
  { c with addr := c.addr.extractLsb' 16 1 ++ v ++ c.addr.extractLsb' 0 8 }

/-- ADDR_H (R368): bit 0 is address bit 16, bits 7:3 the increment code; bits 2:1 are ignored. -/
def Cursor.writeHigh (v : Byte) (c : Cursor) : Cursor :=
  { c with addr := v.extractLsb' 0 1 ++ c.addr.extractLsb' 0 16, inc := v.extractLsb' 3 5 }

/-- ADDR_H as it reads (R361): the code in bits 7:3, bits 2:1 zero, address bit 16 in bit 0. -/
def Cursor.readHigh (c : Cursor) : Byte := c.inc ++ 0#2 ++ c.addr.extractLsb' 16 1

/-! ### Composer and layer registers (R389, R399) -/

/-- `composer[k]`. -/
def Composer.get (c : Composer) (k : Nat) : Byte :=
  match k with
  | 0 => c.video
  | 1 => c.hscale
  | 2 => c.vscale
  | 3 => c.border
  | 4 => c.hstart
  | 5 => c.hstop
  | 6 => c.vstart
  | _ => c.vstop

/-- `composer[k] <- v`. -/
def Composer.set (c : Composer) (k : Nat) (v : Byte) : Composer :=
  match k with
  | 0 => { c with video := v }
  | 1 => { c with hscale := v }
  | 2 => { c with vscale := v }
  | 3 => { c with border := v }
  | 4 => { c with hstart := v }
  | 5 => { c with hstop := v }
  | 6 => { c with vstart := v }
  | _ => { c with vstop := v }

/-- `layer[l][k]`. -/
def Layer.get (l : Layer) (k : Nat) : Byte :=
  match k with
  | 0 => l.config
  | 1 => l.mapBase
  | 2 => l.tileBase
  | 3 => l.hscrollL
  | 4 => l.hscrollH
  | 5 => l.vscrollL
  | _ => l.vscrollH

/-- `layer[l][k] <- v`. -/
def Layer.set (l : Layer) (k : Nat) (v : Byte) : Layer :=
  match k with
  | 0 => { l with config := v }
  | 1 => { l with mapBase := v }
  | 2 => { l with tileBase := v }
  | 3 => { l with hscrollL := v }
  | 4 => { l with hscrollH := v }
  | 5 => { l with vscrollL := v }
  | _ => { l with vscrollH := v }

/-- Layer 0 or 1. -/
def Video.layer (v : Video) (one : Bool) : Layer := if one then v.layer1 else v.layer0

/-- Replaces layer 0 or 1. -/
def Video.setLayer (v : Video) (one : Bool) (l : Layer) : Video :=
  if one then { v with layer1 := l } else { v with layer0 := l }

/-- The composer register that video register $09 + k shows (R389). -/
def Video.dcIndex (v : Video) (k : Nat) : Nat := 4 * v.dcsel.toNat + k

/-! ### Video reset (`10_state.md` R75) -/

/-- The two bytes of a palette entry: green and blue, then red (R410). -/
def paletteBytes (e : BitVec 12) : List Byte := [e.extractLsb' 0 8, 0#4 ++ e.extractLsb' 8 4]

/-- `DEFAULT_PALETTE` as the 512 bytes of `vram[$1FA00 .. $1FBFF]` (R411); an entry the list does not have is 0. -/
def defaultPaletteBytes (cfg : Params) : List Byte :=
  (List.range 256).flatMap fun i => paletteBytes (cfg.defaultPalette.getD i 0#12)

/-- The video memory after a video reset: the default palette and zeroed sprite attributes (`10_state.md` R75). -/
def resetVram (cfg : Params) (vram : Memory) : Memory :=
  (vram.writeAll 0x1FA00 (defaultPaletteBytes cfg)).writeAll 0x1FC00 (List.replicate 1024 0x00#8)

/-- The video reset (`10_state.md` R75): every item of R57 to R68 to its reset value; the rest of `vram` and the frame
buffer stay. -/
def Video.reset (cfg : Params) (v : Video) : Video :=
  let vram := resetVram cfg v.vram
  let cur : Cursor := { addr := 0#17, inc := 0#5, latch := vram.read 0 }
  { vram := vram, cur0 := cur, cur1 := cur, addrsel := false, dcsel := false,
    ien := 0#4, irqLine := 0#9, isr := 0x00#8,
    composer := { video := 0, hscale := 128, vscale := 128, border := 0,
                  hstart := 0, hstop := 160, vstart := 0, vstop := 240 },
    layer0 := Layer.zero, layer1 := Layer.zero,
    scanXNum := 0, scanY := 0, frameCount := 0, spriteCollisions := 0x00#8, fb := v.fb }

/-! ### The registers without the data ports and the external ones (R361, R362) -/

/-- ISR as it reads (R382): bit 3 is the live level of `pcm_fifo_low`. -/
def Video.isrRead (v : Video) (pcmFifoLow : Bool) : Byte :=
  (v.isr &&& 0xF7#8) ||| (if pcmFifoLow then 0x08#8 else 0x00#8)

/-- `VideoRead` of a register without a side effect (R361). For a data port it is what the port would return
(R117, R373); an external register holds nothing in the CORE. -/
def Video.regRead (v : Video) (cfg : Params) (pcmFifoLow : Bool) (r : VideoReg) : Byte :=
  match r with
  | .addrL => (v.cursor v.addrsel).addr.extractLsb' 0 8
  | .addrM => (v.cursor v.addrsel).addr.extractLsb' 8 8
  | .addrH => (v.cursor v.addrsel).readHigh
  | .data one => (v.cursor (v.portCursor cfg one)).latch
  | .ctrl => 0#6 ++ BitVec.ofBool v.dcsel ++ BitVec.ofBool v.addrsel
  | .ien => v.irqLine.extractLsb' 8 1 ++ 0#3 ++ v.ien
  | .isr => v.isrRead pcmFifoLow
  | .irqLineL => v.irqLine.extractLsb' 0 8
  | .dc k => v.composer.get (v.dcIndex k)
  | .layer one k => (v.layer one).get k
  | .pcm _ => 0x00#8
  | .spi _ => 0x00#8

/-- CTRL (R380): bit 7 triggers the video reset, then bits 1 and 0 are stored. -/
def Video.writeCtrl (v : Video) (cfg : Params) (b : Byte) : Video :=
  let v := if testBit b 7 then v.reset cfg else v
  { v with dcsel := testBit b 1, addrsel := testBit b 0 }

/-- `VideoWrite` of a register inside the CORE other than a data port (R362). -/
def Video.regWrite (v : Video) (cfg : Params) (r : VideoReg) (b : Byte) : Video :=
  match r with
  | .addrL => v.writeAddr (Cursor.writeLow b)
  | .addrM => v.writeAddr (Cursor.writeMid b)
  | .addrH => v.writeAddr (Cursor.writeHigh b)
  | .data _ => v
  | .ctrl => v.writeCtrl cfg b
  | .ien => { v with ien := b.extractLsb' 0 4, irqLine := b.extractLsb' 7 1 ++ v.irqLine.extractLsb' 0 8 }
  | .isr => { v with isr := v.isr &&& (b ^^^ 0xFF#8) }
  | .irqLineL => { v with irqLine := v.irqLine.extractLsb' 8 1 ++ b }
  | .dc k => { v with composer := v.composer.set (v.dcIndex k) b }
  | .layer one k => v.setLayer one ((v.layer one).set k b)
  | .pcm _ => v
  | .spi _ => v

/-- Writes a byte of video space and advances the cursor (R374), inside VIDEO. -/
def Video.portWrite (v : Video) (one : Bool) (b : Byte) : Video :=
  { v with vram := v.vram.write (v.cursor one).addr.toNat b }.advance one

end Sys2Proof.Machine
end

