-- ==== Sys2Proof/Machine/Bus.lean ====
section
/-! DEFINITION. The BUS (`20_memory.md`): the region decode, the I/O page with its devices (`52_io_devices.md`), the
read and write operations, the bank register port and the debug read. -/

namespace Sys2Proof.Machine

open Sys2Proof.Config

/-- The region kinds (`20_memory.md` R92). -/
inductive Region where
  | null
  | directRam
  | io
  | bankedRam
  | bankedRom
deriving DecidableEq, Repr

/-- The first decode level: the region kind of a high byte (R90, R91). -/
def regionOfHigh (hi : Byte) : Region :=
  if hi.toNat ≤ 0x9E then .directRam
  else if hi.toNat = 0x9F then .io
  else if hi.toNat ≤ 0xBF then .bankedRam
  else .bankedRom

/-- The region of an address. -/
def region (a : Word) : Region := regionOfHigh (hiByte a)

/-- The devices of the I/O page (R97). -/
inductive IoDevice where
  | audio
  | video
  | lcd
  | via1
  | via2
  | rtc
  | mouse
  | emu
  | null
deriving DecidableEq, Repr

/-- The second decode level: the device of a low byte (R97). -/
def ioDevice (lo : Byte) : IoDevice :=
  let n := lo.toNat
  if n ≤ 0x1F then .audio
  else if n ≤ 0x3F then .video
  else if n ≤ 0x5F then .lcd
  else if n ≤ 0x6F then .via1
  else if n ≤ 0x7F then .via2
  else if n ≤ 0x9F then .rtc
  else if n ≤ 0xAF then .mouse
  else if n ≤ 0xBF then .emu
  else .null

/-! ### Banks (R96, R105 to R107) -/

/-- The index in `bram` of an address of $A000–$BFFF under a bank number (R105). -/
def bramIndex (cfg : Params) (bank : Nat) (a : Word) : Nat := bank % cfg.numRamBanks * 0x2000 + (a.toNat - 0xA000)

/-- The index in `rom` of an address of $C000–$FFFF under a bank number (R106). -/
def romIndex (cfg : Params) (bank : Nat) (a : Word) : Nat := bank % cfg.numRomBanks * 0x4000 + (a.toNat - 0xC000)

/-- `SetRamBank(v)` (R96): the register keeps `RAM_BANK_REG_WIDTH` bits. -/
def setRamBank (v : Nat) (s : State) : State :=
  { s with bus := { s.bus with ramBank := v % 2 ^ s.cfg.ramBankRegWidth } }

/-- `SetRomBank(v)` (R96): the register keeps 5 bits. -/
def setRomBank (v : Nat) (s : State) : State := { s with bus := { s.bus with romBank := BitVec.ofNat 5 v } }

/-- `GetRamBank()` (R96): the value written, not reduced (R107). -/
def getRamBank (s : State) : Nat := s.bus.ramBank

/-- `GetRomBank()` (R96). -/
def getRomBank (s : State) : BitVec 5 := s.bus.romBank

/-! ### External collaborators (R118, `50_video_registers.md` R420, R421) -/

/-- Whether the device is modelled by the stub that reads 0: all but the two VIAs, when `extStubs` holds (R118). -/
def isStub (cfg : Params) (dev : ExtDev) : Bool :=
  cfg.extStubs && (match dev with
    | .via1 => false
    | .via2 => false
    | _ => true)

/-- `ExtRead(dev, reg)`: 0 from a stub, else a free value; the access is recorded (log 11, 12). -/
def extRead (dev : ExtDev) (reg : Nat) (s : State) : Byte × State :=
  (if isStub s.cfg dev then 0x00#8 else extReadValue dev reg s.ext.length,
   { s with ext := .read dev reg :: s.ext })

/-- `ExtWrite(dev, reg, v)`: no effect inside the CORE but the record (log 12). -/
def extWrite (dev : ExtDev) (reg : Nat) (v : Byte) (s : State) : State := { s with ext := .write dev reg v :: s.ext }

/-- `ExtDebugRead(dev, reg)` (R117): changes nothing. DESIGN CHOICE (log 29): the spec gives the stub of R118 an `ExtRead`
and an `ExtWrite` only; here its probe gives the 0 that its read gives. For a device that is no stub it is a free value
(log 11). -/
def extDebugRead (dev : ExtDev) (reg : Nat) (s : State) : Byte :=
  if isStub s.cfg dev then 0x00#8 else extDebugValue dev reg s.ext.length

/-! ### Video registers from the BUS (`50_video_registers.md` R361, R362, R373, R374) -/

/-- `VideoRead(reg)` (R361). -/
def videoRead (reg : Nat) (s : State) : Byte × State :=
  match videoReg reg with
  | .data port =>
    let c := s.video.portCursor s.cfg port
    ((s.video.cursor c).latch, { s with video := s.video.advance c })
  | .pcm k => extRead .pcm k s
  | .spi k => extRead .spi k s
  | r => (s.video.regRead s.cfg s.pins.pcmFifoLow r, s)

/-- The register of the sound generator that a video address reaches (R370), if it is in its range. -/
def psgRegister (a : VAddr) : Option Nat :=
  if 0x1F9C0 ≤ a.toNat ∧ a.toNat ≤ 0x1F9FF then some (a.toNat - 0x1F9C0) else none

/-- A data-port write (R374), which in the range of the sound generator also goes there (R370). -/
def dataPortWrite (port : Bool) (v : Byte) (s : State) : State :=
  let c := s.video.portCursor s.cfg port
  let t := { s with video := s.video.portWrite c v }
  match psgRegister (s.video.cursor c).addr with
  | some reg => extWrite .psg reg v t
  | none => t

/-- `VideoWrite(reg, v)` (R362). -/
def videoWrite (reg : Nat) (v : Byte) (s : State) : State :=
  match videoReg reg with
  | .data port => dataPortWrite port v s
  | .pcm k => extWrite .pcm k v s
  | .spi k => extWrite .spi k v s
  | r => { s with video := s.video.regWrite s.cfg r v }

/-! ### Emulator control (`52_io_devices.md` R505, R506) -/

/-- `EmuRead(reg)` (R505). -/
def emuRead (reg : Nat) (s : State) : Byte :=
  match reg with
  | 0 => s.emu.debug
  | 1 => s.emu.logVideo
  | 2 => s.emu.logKeyboard
  | 3 => s.emu.echo
  | 4 => s.emu.saveOnExit
  | 5 => s.emu.gifCmd
  | 8 => counterByte s.cpu.cycles 0
  | 9 => counterByte s.cpu.cycles 1
  | 10 => counterByte s.cpu.cycles 2
  | 11 => counterByte s.cpu.cycles 3
  | 13 => s.emu.keymap
  | 14 => 0x31#8
  | 15 => 0x36#8
  | _ => s.cfg.emuInvalidRead

/-- The stored registers after `EmuWrite(reg, v)` (R506). -/
def Emu.write (e : Emu) (reg : Nat) (v : Byte) : Emu :=
  match reg with
  | 0 => { e with debug := v }
  | 1 => { e with logVideo := v }
  | 2 => { e with logKeyboard := v }
  | 3 => { e with echo := v }
  | 4 => { e with saveOnExit := v }
  | 5 => { e with gifCmd := v }
  | 13 => { e with keymap := v }
  | 15 => { e with led := v }
  | _ => e

/-! ### The I/O page and the BUS operations (R100 to R103) -/

/-- The register index inside a device of 32 registers. -/
def low5 (lo : Byte) : Nat := lo.toNat % 32

/-- The register index inside a device of 16 registers. -/
def low4 (lo : Byte) : Nat := lo.toNat % 16

/-- `IoRead(lo)` (R102). -/
def ioRead (lo : Byte) (s : State) : Byte × State :=
  match ioDevice lo with
  | .audio => extRead .audio (low5 lo) s
  | .video => videoRead (low5 lo) s
  | .lcd => (0x00#8, s)
  | .via1 => extRead .via1 (low4 lo) s
  | .via2 => extRead .via2 (low4 lo) s
  | .rtc => (0x00#8, s)
  | .mouse => (0xFF#8, s)
  | .emu => (emuRead (low4 lo) s, s)
  | .null => (0x00#8, s)

/-- `IoWrite(lo, v)` (R103). -/
def ioWrite (lo : Byte) (v : Byte) (s : State) : State :=
  match ioDevice lo with
  | .audio => extWrite .audio (low5 lo) v s
  | .video => videoWrite (low5 lo) v s
  | .lcd => s
  | .via1 => extWrite .via1 (low4 lo) v s
  | .via2 => extWrite .via2 (low4 lo) v s
  | .rtc => s
  | .mouse => s
  | .emu => { s with emu := s.emu.write (low4 lo) v }
  | .null => s

/-- The byte of the RAM or ROM cell that an address selects; 0 where it selects none. -/
def State.cell (s : State) (a : Word) : Byte :=
  match region a with
  | .directRam => s.bus.ram.read a.toNat
  | .bankedRam => s.bus.bram.read (bramIndex s.cfg s.bus.ramBank a)
  | .bankedRom => s.bus.rom.read (romIndex s.cfg s.bus.romBank.toNat a)
  | .io => 0x00#8
  | .null => 0x00#8

/-- `MemRead(addr, 1)` (R100): the byte, and the state the read leaves. -/
def memRead (a : Word) (s : State) : Byte × State :=
  match region a with
  | .io => ioRead (loByte a) s
  | _ => (s.cell a, s)

/-- `MemWrite(addr, 1, v)` (R101). -/
def memWrite (a : Word) (v : Byte) (s : State) : State :=
  match region a with
  | .directRam => { s with bus := { s.bus with ram := s.bus.ram.write a.toNat v } }
  | .io => ioWrite (loByte a) v s
  | .bankedRam => { s with bus := { s.bus with bram := s.bus.bram.write (bramIndex s.cfg s.bus.ramBank a) v } }
  | .bankedRom => s
  | .null => s

/-- `Read16(a)` (`00_scope.md` R15): low byte first, the second address modulo 2^16. -/
def read16 (a : Word) (s : State) : Word × State :=
  let lo := memRead a s
  let hi := memRead (a + 1) lo.2
  (wordOf hi.1 lo.1, hi.2)

/-- A byte of page zero, which is plain RAM: the read changes nothing (R94; log 24). -/
def readZp (z : Byte) (s : State) : Byte := (memRead (zext16 z) s).1

/-- `Read16ZP(z)` (`00_scope.md` R15): the pointer stays inside page zero. -/
def read16Zp (z : Byte) (s : State) : Word := wordOf (readZp (z + 1) s) (readZp z s)

/-! ### Debug read (R117) -/

/-- The I/O part of `DebugRead`: no cursor moves, an external device is only probed. -/
def ioDebugRead (lo : Byte) (s : State) : Byte :=
  match ioDevice lo with
  | .audio => extDebugRead .audio (low5 lo) s
  | .video =>
    match videoReg (low5 lo) with
    | .pcm k => extDebugRead .pcm k s
    | .spi k => extDebugRead .spi k s
    | r => s.video.regRead s.cfg s.pins.pcmFifoLow r
  | .lcd => 0x00#8
  | .via1 => extDebugRead .via1 (low4 lo) s
  | .via2 => extDebugRead .via2 (low4 lo) s
  | .rtc => 0x00#8
  | .mouse => 0xFF#8
  | .emu => emuRead (low4 lo) s
  | .null => 0x00#8

/-- `DebugRead(addr, bank)` (R117): what `MemRead` would return if the bank register of the address's window held
`bank`; it changes no state. DESIGN CHOICE (log 28): the spec gives the argument no width; a bank number that the
register could not hold is not cut to the register's width but reduced by the bank count like any other. -/
def debugRead (a : Word) (bank : Nat) (s : State) : Byte :=
  match region a with
  | .directRam => s.bus.ram.read a.toNat
  | .io => ioDebugRead (loByte a) s
  | .bankedRam => s.bus.bram.read (bramIndex s.cfg bank a)
  | .bankedRom => s.bus.rom.read (romIndex s.cfg bank a)
  | .null => 0x00#8

end Sys2Proof.Machine
end

