-- ==== Sys2Proof/Machine/Flags.lean ====
section
/-! DEFINITION. The status byte and every flag computation (`10_state.md` R33 to R42, `41_arithmetic.md` R201 to R204,
`43_shift_rotate.md` R231 to R234, `44_compare.md` R240, `49_bit_system.md` R331). -/

namespace Sys2Proof.Machine

/-- `P = N:V:U:B:D:I:Z:C` with `U` the constant 1 (`10_state.md` R41). -/
def Flags.pack (f : Flags) : Byte :=
  BitVec.ofBool f.n ++ BitVec.ofBool f.v ++ 1#1 ++ BitVec.ofBool f.b ++ BitVec.ofBool f.d ++ BitVec.ofBool f.i ++
    BitVec.ofBool f.z ++ BitVec.ofBool f.c

/-- `P <- v` (`10_state.md` R41): bit 5 is dropped, `U` stays 1. -/
def Flags.unpack (v : Byte) : Flags :=
  { n := testBit v 7, v := testBit v 6, b := testBit v 4, d := testBit v 3, i := testBit v 2, z := testBit v 1,
    c := testBit v 0 }

/-- `SetNZ(v)` (`00_scope.md` R15). -/
def Flags.setNZ (f : Flags) (v : Byte) : Flags := { f with n := testBit v 7, z := decide (v = 0) }

/-- A result with the flags it leaves. -/
structure FlaggedByte where
  value : Byte
  flags : Flags
deriving DecidableEq, Repr

/-- The carry as a number. -/
def Flags.carry (f : Flags) : Nat := f.c.toNat

/-- Bit 7 of `(a ^ r) & (w ^ r)`: `a` and `w` agree in sign and `r` has the other one (`41_arithmetic.md` R201). -/
def signedOverflow (a w r : Byte) : Bool := testBit ((a ^^^ r) &&& (w ^^^ r)) 7

/-- Binary ADC (`41_arithmetic.md` R201). -/
def adcBinary (a v : Byte) (f : Flags) : FlaggedByte :=
  let s := a.toNat + v.toNat + f.carry
  let r := BitVec.ofNat 8 s
  { value := r, flags := { f with c := decide (256 ≤ s), v := signedOverflow a v r }.setNZ r }

/-- The low digit sum of decimal ADC after its fix-up (`41_arithmetic.md` R202). -/
def decimalLow (a v : Byte) (f : Flags) : Nat :=
  let al := a.toNat % 16 + v.toNat % 16 + f.carry
  if 0x0A ≤ al then (al + 6) % 16 + 16 else al

/-- Decimal ADC (`41_arithmetic.md` R202). -/
def adcDecimal (a v : Byte) (f : Flags) : FlaggedByte :=
  let t := a.toNat / 16 * 16 + v.toNat / 16 * 16 + decimalLow a v f
  let u := if 0xA0 ≤ t then t + 0x60 else t
  let r := BitVec.ofNat 8 u
  { value := r, flags := { f with c := decide (0x100 ≤ u), v := signedOverflow a v (BitVec.ofNat 8 t) }.setNZ r }

/-- ADC: the flag `D` selects the arithmetic (`10_state.md` R36). -/
def adcResult (a v : Byte) (f : Flags) : FlaggedByte := if f.d then adcDecimal a v f else adcBinary a v f

/-- Binary SBC is ADC of the complement (`41_arithmetic.md` R203). -/
def sbcBinary (a v : Byte) (f : Flags) : FlaggedByte := adcBinary a (v ^^^ 0xFF#8) f

/-- The value of decimal SBC, computed on integers (`41_arithmetic.md` R204). -/
def sbcDecimalValue (a v : Byte) (f : Flags) : Byte :=
  let al : Int := (a.toNat % 16 : Nat) - (v.toNat % 16 : Nat) + (f.carry : Nat) - 1
  let t : Int := (a.toNat : Int) - v.toNat + f.carry - 1
  let t := if t < 0 then t - 0x60 else t
  let t := if al < 0 then t - 0x06 else t
  BitVec.ofInt 8 t

/-- Decimal SBC: C and V as in binary mode, N and Z from the decimal result (`41_arithmetic.md` R204). -/
def sbcDecimal (a v : Byte) (f : Flags) : FlaggedByte :=
  let r := sbcDecimalValue a v f
  { value := r, flags := (sbcBinary a v f).flags.setNZ r }

/-- SBC: the flag `D` selects the arithmetic. -/
def sbcResult (a v : Byte) (f : Flags) : FlaggedByte := if f.d then sbcDecimal a v f else sbcBinary a v f

/-- The flags of a compare (`44_compare.md` R240). -/
def compareFlags (reg v : Byte) (f : Flags) : Flags :=
  let d := reg.toNat + (v ^^^ 0xFF#8).toNat + 1
  { f with c := decide (256 ≤ d) }.setNZ (BitVec.ofNat 8 d)

/-- ASL (`43_shift_rotate.md` R231). -/
def aslResult (v : Byte) (f : Flags) : FlaggedByte :=
  let r := v <<< 1
  { value := r, flags := { f with c := testBit v 7 }.setNZ r }

/-- LSR (`43_shift_rotate.md` R232). -/
def lsrResult (v : Byte) (f : Flags) : FlaggedByte :=
  let r := v >>> 1
  { value := r, flags := { f with c := testBit v 0 }.setNZ r }

/-- ROL (`43_shift_rotate.md` R233). -/
def rolResult (v : Byte) (f : Flags) : FlaggedByte :=
  let r := (v <<< 1) ||| (BitVec.ofBool f.c).setWidth 8
  { value := r, flags := { f with c := testBit v 7 }.setNZ r }

/-- ROR (`43_shift_rotate.md` R234). -/
def rorResult (v : Byte) (f : Flags) : FlaggedByte :=
  let r := (v >>> 1) ||| ((BitVec.ofBool f.c).setWidth 8 <<< 7)
  { value := r, flags := { f with c := testBit v 0 }.setNZ r }

/-- INC (`41_arithmetic.md` R205). -/
def incResult (v : Byte) (f : Flags) : FlaggedByte := { value := v + 1, flags := f.setNZ (v + 1) }

/-- DEC (`41_arithmetic.md` R206). -/
def decResult (v : Byte) (f : Flags) : FlaggedByte := { value := v - 1, flags := f.setNZ (v - 1) }

/-- `Z <- bool((A & v) = 0)` (`49_bit_system.md` R331 to R333). -/
def Flags.testZ (f : Flags) (a v : Byte) : Flags := { f with z := decide (a &&& v = 0) }

/-- BIT with a memory operand (`49_bit_system.md` R331): N and V are bits 7 and 6 of the operand itself. -/
def Flags.bitMemory (f : Flags) (a v : Byte) : Flags := { f.testZ a v with n := testBit v 7, v := testBit v 6 }

/-- TRB (`49_bit_system.md` R332): clears the bits that are set in `A`. -/
def trbResult (a v : Byte) (f : Flags) : FlaggedByte := { value := v &&& (a ^^^ 0xFF#8), flags := f.testZ a v }

/-- TSB (`49_bit_system.md` R333): sets the bits that are set in `A`. -/
def tsbResult (a v : Byte) (f : Flags) : FlaggedByte := { value := v ||| a, flags := f.testZ a v }

/-- RMBn (`49_bit_system.md` R334). -/
def rmbValue (n : Nat) (v : Byte) : Byte := v &&& (bitMask n ^^^ 0xFF#8)

/-- SMBn (`49_bit_system.md` R335). -/
def smbValue (n : Nat) (v : Byte) : Byte := v ||| bitMask n

end Sys2Proof.Machine
end

