-- ==== Sys2Proof/Machine/Ops.lean ====
section
/-! DEFINITION. The named operations of the CPU: register updates, cycle charging, the instruction fetch, the stack, the
trap entries and the return (`00_scope.md` R15, `46_jump_subroutine.md`, `60_exceptions.md`), and `reset()`
(`70_reset_and_hazards.md` R590). -/

namespace Sys2Proof.Machine

open Sys2Proof.Config

/-! ### Register updates -/

/-- `PC <- w`. -/
def State.setPc (s : State) (w : Word) : State := { s with cpu := { s.cpu with pc := w } }

/-- `SP <- v`. -/
def State.setSp (s : State) (v : Byte) : State := { s with cpu := { s.cpu with sp := v } }

/-- `A <- v`. -/
def State.setA (s : State) (v : Byte) : State := { s with cpu := { s.cpu with a := v } }

/-- `X <- v`. -/
def State.setX (s : State) (v : Byte) : State := { s with cpu := { s.cpu with x := v } }

/-- `Y <- v`. -/
def State.setY (s : State) (v : Byte) : State := { s with cpu := { s.cpu with y := v } }

/-- Replaces the flags. -/
def State.setP (s : State) (f : Flags) : State := { s with cpu := { s.cpu with p := f } }

/-- `SetNZ(v)` on the machine. -/
def State.setNZ (s : State) (v : Byte) : State := s.setP (s.cpu.p.setNZ v)

/-- `WAIT <- b` (`10_state.md` R43). -/
def State.setWait (s : State) (b : Bool) : State := { s with cpu := { s.cpu with wait := b } }

/-- `STOPPED <- b` (`49_bit_system.md` R342). -/
def State.setStopped (s : State) (b : Bool) : State := { s with cpu := { s.cpu with stopped := b } }

/-- `GOAL <- g` (`10_state.md` R46). -/
def State.setGoal (s : State) (g : Counter) : State := { s with cpu := { s.cpu with goal := g } }

/-- `Charge(n)` (`00_scope.md` R15): `CYCLES` wraps modulo 2^32 (`10_state.md` R44). -/
def State.charge (s : State) (n : Nat) : State :=
  { s with cpu := { s.cpu with cycles := s.cpu.cycles + BitVec.ofNat 32 n } }

/-- `ICOUNT <- ICOUNT + 1` (`10_state.md` R45). -/
def State.countInstruction (s : State) : State := { s with cpu := { s.cpu with icount := s.cpu.icount + 1 } }

/-! ### Cycle costs (`30_encoding.md` R165 to R167) -/

/-- `BASE_COST[op]`. -/
def baseCost (cfg : Params) (op : Nat) : Nat := cfg.baseCost.getD op 0

/-- `PENALTY[op]`. -/
def paysPenalty (cfg : Params) (op : Nat) : Bool := cfg.penalty.contains op

/-- The base cost and the page-crossing penalty of an opcode (R166, R167). -/
def modeCost (cfg : Params) (op : Nat) (cross : Bool) : Nat :=
  baseCost cfg op + (paysPenalty cfg op && cross).toNat

/-- Charges an instruction whose mode reports `cross`. -/
def State.chargeOp (s : State) (op : Nat) (cross : Bool) : State := s.charge (modeCost s.cfg op cross)

/-! ### Fetching (`30_encoding.md` R140, R144) -/

/-- `Fetch8()` (`00_scope.md` R15). -/
def fetch8 (s : State) : Byte × State :=
  let r := memRead s.cpu.pc s
  (r.1, r.2.setPc (r.2.cpu.pc + 1))

/-- The operand bytes an instruction of this length has after its opcode, 0 where it has none. -/
def fetchOperands (length : Nat) (s : State) : (Byte × Byte) × State :=
  if length = 1 then ((0, 0), s)
  else
    let b := fetch8 s
    if length = 2 then ((b.1, 0), b.2)
    else
      let c := fetch8 b.2
      ((b.1, c.1), c.2)

/-- Fetches the opcode, counts the instruction, and fetches the operand bytes in address order, all before anything
else (R140, R144); `PC` is then the address of the next instruction. -/
def fetchInstr (s : State) : Instr × State :=
  let o := fetch8 s
  let b := fetchOperands (opcodeLength o.1) o.2.countInstruction
  (decodeOp o.1 b.1.1 b.1.2, b.2)

/-! ### Stack (`47_stack.md` R290) -/

/-- `Push8(v)`. -/
def push8 (v : Byte) (s : State) : State :=
  let t := memWrite (stackAddr s.cpu.sp) v s
  t.setSp (t.cpu.sp - 1)

/-- `Pull8()`. -/
def pull8 (s : State) : Byte × State :=
  let t := s.setSp (s.cpu.sp + 1)
  memRead (stackAddr t.cpu.sp) t

/-- `Push16(v)` (`00_scope.md` R15): the high byte first. -/
def push16 (w : Word) (s : State) : State := push8 (loByte w) (push8 (hiByte w) s)

/-- `Pull16()` (`00_scope.md` R15): the low byte first. -/
def pull16 (s : State) : Word × State :=
  let lo := pull8 s
  let hi := pull8 lo.2
  (wordOf hi.1 lo.1, hi.2)

/-! ### Traps (`60_exceptions.md` R540, R550 to R552; `46_jump_subroutine.md` R275, R276) -/

/-- The events that save the program counter and the status on the stack. -/
inductive Trap where
  | irq
  | nmi
  | brk
deriving DecidableEq, Repr

/-- The vector (R540). -/
def Trap.vector (k : Trap) : Word :=
  match k with
  | .irq => 0xFFFE#16
  | .nmi => 0xFFFA#16
  | .brk => 0xFFFE#16

/-- The address pushed: the next instruction's, for BRK one more (R276, R550, R551). -/
def Trap.returnPc (k : Trap) (pc : Word) : Word :=
  match k with
  | .irq => pc
  | .nmi => pc
  | .brk => pc + 1

/-- The status byte pushed: bit 4 clear for IRQ, set for BRK, as stored for NMI (R552). -/
def Trap.pushedStatus (k : Trap) (f : Flags) : Byte :=
  match k with
  | .irq => f.pack &&& 0xEF#8
  | .nmi => f.pack
  | .brk => f.pack ||| 0x10#8

/-- The flags after the entry: `I` set, and `D` cleared by BRK only (R276, R550, R551). -/
def Trap.entryFlags (k : Trap) (f : Flags) : Flags :=
  match k with
  | .irq => { f with i := true }
  | .nmi => { f with i := true }
  | .brk => { f with i := true, d := false }

/-- What only the asynchronous entries do at their end: the wait latch is cleared and `INT_ENTRY_CYCLES` charged. -/
def Trap.finish (k : Trap) (s : State) : State :=
  match k with
  | .irq => (s.setWait false).charge s.cfg.intEntryCycles
  | .nmi => (s.setWait false).charge s.cfg.intEntryCycles
  | .brk => s

/-- Taking a trap: `irq()` (R550), `nmi()` (R551) and the entry of BRK (R276). -/
def takeTrap (k : Trap) (s : State) : State :=
  let t := push16 (k.returnPc s.cpu.pc) s
  let t := push8 (k.pushedStatus t.cpu.p) t
  let t := t.setP (k.entryFlags t.cpu.p)
  let v := read16 k.vector t
  k.finish (v.2.setPc v.1)

/-- Returning from a trap (R275, R554): the status, then the program counter. -/
def returnFromTrap (s : State) : State :=
  let p := pull8 s
  let w := pull16 (p.2.setP (Flags.unpack p.1))
  w.2.setPc w.1

/-- `reset()` (`70_reset_and_hazards.md` R590). With `OPCODE_DB = stop` it is also what clears `STOPPED`
(`49_bit_system.md` R342). -/
def cpuReset (s : State) : State :=
  let t := (((s.setA 0).setX 0).setY 0).setSp 0xFD#8
  let t := (t.setWait false).setStopped false
  let v := read16 0xFFFC#16 t
  v.2.setPc v.1

/-! ### The interrupt request (`60_exceptions.md` R545) -/

/-- `video_irq`: an enabled status bit, bit 3 being the live input. -/
def videoIrq (s : State) : Bool :=
  decide (((s.video.isr &&& 0x07#8) ||| (if s.pins.pcmFifoLow then 0x08#8 else 0x00#8)) &&&
    s.video.ien.setWidth 8 ≠ 0)

/-- `irq_level`. -/
def irqLevel (s : State) : Bool := videoIrq s || s.pins.extIrq

end Sys2Proof.Machine
end

