-- ==== Sys2Proof/Machine/Operands.lean ====
section
/-! DEFINITION. The operand forms (`30_encoding.md` R149 to R164): the effective address of every memory mode with its
page-crossing report, and the shapes of instruction that use them: reading, storing, modifying. -/

namespace Sys2Proof.Machine

/-- The modes with an effective address in memory, with their operand bytes as fetched. -/
inductive AddrMode where
  | zp (z : Byte)
  | zpX (z : Byte)
  | zpY (z : Byte)
  | abs (a : Word)
  | absX (a : Word)
  | absY (a : Word)
  | indX (z : Byte)
  | indY (z : Byte)
  | izp (z : Byte)
deriving DecidableEq, Repr

/-- The effective address `ea` of a mode (R153 to R158, R160 to R162). -/
def AddrMode.address (m : AddrMode) (s : State) : Word :=
  match m with
  | .zp z => zext16 z
  | .zpX z => zext16 (z + s.cpu.x)
  | .zpY z => zext16 (z + s.cpu.y)
  | .abs a => a
  | .absX a => a + zext16 s.cpu.x
  | .absY a => a + zext16 s.cpu.y
  | .indX z => read16Zp (z + s.cpu.x) s
  | .indY z => read16Zp z s + zext16 s.cpu.y
  | .izp z => read16Zp z s

/-- Whether a mode reports a page crossing (R153 to R162): only the indexed 16-bit sums do. -/
def AddrMode.cross (m : AddrMode) (s : State) : Bool :=
  match m with
  | .absX a => pageCross a (m.address s)
  | .absY a => pageCross a (m.address s)
  | .indY z => pageCross (read16Zp z s) (m.address s)
  | _ => false

/-- What a reading instruction reads: an immediate byte (R152) or memory. -/
inductive Operand where
  | imm (v : Byte)
  | mem (m : AddrMode)
deriving DecidableEq, Repr

/-- The operand's value and the state after its one read (`40_load_store.md` R180). -/
def Operand.read (o : Operand) (s : State) : Byte × State :=
  match o with
  | .imm v => (v, s)
  | .mem m => memRead (m.address s) s

/-- The page-crossing report of an operand. -/
def Operand.cross (o : Operand) (s : State) : Bool :=
  match o with
  | .imm _ => false
  | .mem m => m.cross s

/-- What a modifying instruction changes: the accumulator (R151) or memory. -/
inductive Target where
  | acc
  | mem (m : AddrMode)
deriving DecidableEq, Repr

/-- The page-crossing report of a target. -/
def Target.cross (t : Target) (s : State) : Bool :=
  match t with
  | .acc => false
  | .mem m => m.cross s

/-- A reading instruction: one read, then `f` with the value, then the charge (R140, R180, R200, R220, R240). -/
def readingInstr (op : Nat) (o : Operand) (f : Byte → State → State) (s : State) : Result :=
  let r := o.read s
  .next ((f r.1 r.2).chargeOp op (o.cross s))

/-- A storing instruction: one write and no read of the target (`40_load_store.md` R180). -/
def storingInstr (op : Nat) (m : AddrMode) (v : Byte) (s : State) : Result :=
  .next ((memWrite (m.address s) v s).chargeOp op (m.cross s))

/-- A modifying instruction: one read, one write of the result, then the flags (`41_arithmetic.md` R200,
`43_shift_rotate.md` R230, `49_bit_system.md` R330). -/
def modifyingInstr (op : Nat) (t : Target) (f : Byte → Flags → FlaggedByte) (s : State) : Result :=
  match t with
  | .acc =>
    let r := f s.cpu.a s.cpu.p
    .next (((s.setA r.value).setP r.flags).chargeOp op false)
  | .mem m =>
    let v := memRead (m.address s) s
    let r := f v.1 s.cpu.p
    .next (((memWrite (m.address s) r.value v.2).setP r.flags).chargeOp op (m.cross s))

/-- An implied instruction (R150): a change of the machine and the charge of the opcode. -/
def impliedInstr (op : Nat) (f : State → State) (s : State) : Result := .next ((f s).chargeOp op false)

/-- The target of a relative branch (R163, `45_branch.md` R250), from `PC` already at the next instruction. -/
def branchTarget (next : Word) (r : Byte) : Word := next + sext16 r

/-- The cycles a branch adds to its base cost (`45_branch.md` R251). -/
def branchPenalty (next target : Word) (taken : Bool) : Nat :=
  if taken then 1 + (pageCross next target).toNat else 0

/-- A branch whose condition has been decided (`45_branch.md` R250, R251). DESIGN CHOICE (log 32): it pays the penalty of
R251 only; the term of R166 for `PENALTY` is not charged, whatever table lists a branch opcode. -/
def branchInstr (op : Nat) (r : Byte) (taken : Bool) (s : State) : Result :=
  let next := s.cpu.pc
  let target := branchTarget next r
  let t := if taken then s.setPc target else s
  .next (t.charge (baseCost s.cfg op + branchPenalty next target taken))

/-- A branch on a bit of a zero-page byte (R149, `45_branch.md` R261, R262). -/
def bitBranchInstr (op : Nat) (n : Nat) (whenSet : Bool) (z r : Byte) (s : State) : Result :=
  let v := memRead (zext16 z) s
  branchInstr op r (testBit v.1 n == whenSet) v.2

end Sys2Proof.Machine
end

