-- ==== Sys2Proof/Machine/Arith.lean ====
section
/-! DEFINITION. The arithmetic instructions (`41_arithmetic.md`). -/

namespace Sys2Proof.Machine

/-- `DECIMAL_EXTRA_CYCLE` when `D` is set at the start of ADC or SBC (`30_encoding.md` R166). -/
def decimalExtra (s : State) : Nat := if s.cpu.p.d then s.cfg.decimalExtraCycle else 0

/-- ADC and SBC: the accumulator and N, V, Z, C take the result (R200). -/
def accumulate (f : Byte → Byte → Flags → FlaggedByte) (op : Nat) (o : Operand) (s : State) : Result :=
  readingInstr op o (fun v t =>
    let r := f t.cpu.a v t.cpu.p
    ((t.setA r.value).setP r.flags).charge (decimalExtra s)) s

/-- $61 `ADC (z,X)` (R201, R202). -/
def execAdcIndX (z : Byte) (s : State) : Result := accumulate adcResult 0x61 (.mem (.indX z)) s

/-- $65 `ADC z` (R201, R202). -/
def execAdcZp (z : Byte) (s : State) : Result := accumulate adcResult 0x65 (.mem (.zp z)) s

/-- $69 `ADC #v` (R201, R202). -/
def execAdcImm (v : Byte) (s : State) : Result := accumulate adcResult 0x69 (.imm v) s

/-- $6D `ADC a` (R201, R202). -/
def execAdcAbs (a : Word) (s : State) : Result := accumulate adcResult 0x6D (.mem (.abs a)) s

/-- $71 `ADC (z),Y` (R201, R202). -/
def execAdcIndY (z : Byte) (s : State) : Result := accumulate adcResult 0x71 (.mem (.indY z)) s

/-- $72 `ADC (z)` (R201, R202). -/
def execAdcIzp (z : Byte) (s : State) : Result := accumulate adcResult 0x72 (.mem (.izp z)) s

/-- $75 `ADC z,X` (R201, R202). -/
def execAdcZpX (z : Byte) (s : State) : Result := accumulate adcResult 0x75 (.mem (.zpX z)) s

/-- $79 `ADC a,Y` (R201, R202). -/
def execAdcAbsY (a : Word) (s : State) : Result := accumulate adcResult 0x79 (.mem (.absY a)) s

/-- $7D `ADC a,X` (R201, R202). -/
def execAdcAbsX (a : Word) (s : State) : Result := accumulate adcResult 0x7D (.mem (.absX a)) s

/-- $E1 `SBC (z,X)` (R203, R204). -/
def execSbcIndX (z : Byte) (s : State) : Result := accumulate sbcResult 0xE1 (.mem (.indX z)) s

/-- $E5 `SBC z` (R203, R204). -/
def execSbcZp (z : Byte) (s : State) : Result := accumulate sbcResult 0xE5 (.mem (.zp z)) s

/-- $E9 `SBC #v` (R203, R204). -/
def execSbcImm (v : Byte) (s : State) : Result := accumulate sbcResult 0xE9 (.imm v) s

/-- $ED `SBC a` (R203, R204). -/
def execSbcAbs (a : Word) (s : State) : Result := accumulate sbcResult 0xED (.mem (.abs a)) s

/-- $F1 `SBC (z),Y` (R203, R204). -/
def execSbcIndY (z : Byte) (s : State) : Result := accumulate sbcResult 0xF1 (.mem (.indY z)) s

/-- $F2 `SBC (z)` (R203, R204). -/
def execSbcIzp (z : Byte) (s : State) : Result := accumulate sbcResult 0xF2 (.mem (.izp z)) s

/-- $F5 `SBC z,X` (R203, R204). -/
def execSbcZpX (z : Byte) (s : State) : Result := accumulate sbcResult 0xF5 (.mem (.zpX z)) s

/-- $F9 `SBC a,Y` (R203, R204). -/
def execSbcAbsY (a : Word) (s : State) : Result := accumulate sbcResult 0xF9 (.mem (.absY a)) s

/-- $FD `SBC a,X` (R203, R204). -/
def execSbcAbsX (a : Word) (s : State) : Result := accumulate sbcResult 0xFD (.mem (.absX a)) s

/-- $1A `INC A` (R205). -/
def execIncAcc (s : State) : Result := modifyingInstr 0x1A .acc incResult s

/-- $E6 `INC z` (R205). -/
def execIncZp (z : Byte) (s : State) : Result := modifyingInstr 0xE6 (.mem (.zp z)) incResult s

/-- $EE `INC a` (R205). -/
def execIncAbs (a : Word) (s : State) : Result := modifyingInstr 0xEE (.mem (.abs a)) incResult s

/-- $F6 `INC z,X` (R205). -/
def execIncZpX (z : Byte) (s : State) : Result := modifyingInstr 0xF6 (.mem (.zpX z)) incResult s

/-- $FE `INC a,X` (R205). -/
def execIncAbsX (a : Word) (s : State) : Result := modifyingInstr 0xFE (.mem (.absX a)) incResult s

/-- $3A `DEC A` (R206). -/
def execDecAcc (s : State) : Result := modifyingInstr 0x3A .acc decResult s

/-- $C6 `DEC z` (R206). -/
def execDecZp (z : Byte) (s : State) : Result := modifyingInstr 0xC6 (.mem (.zp z)) decResult s

/-- $CE `DEC a` (R206). -/
def execDecAbs (a : Word) (s : State) : Result := modifyingInstr 0xCE (.mem (.abs a)) decResult s

/-- $D6 `DEC z,X` (R206). -/
def execDecZpX (z : Byte) (s : State) : Result := modifyingInstr 0xD6 (.mem (.zpX z)) decResult s

/-- $DE `DEC a,X` (R206). -/
def execDecAbsX (a : Word) (s : State) : Result := modifyingInstr 0xDE (.mem (.absX a)) decResult s

/-- $E8 `INX` (R207). -/
def execInx (s : State) : Result := impliedInstr 0xE8 (fun s => (s.setX (s.cpu.x + 1)).setNZ (s.cpu.x + 1)) s

/-- $C8 `INY` (R208). -/
def execIny (s : State) : Result := impliedInstr 0xC8 (fun s => (s.setY (s.cpu.y + 1)).setNZ (s.cpu.y + 1)) s

/-- $CA `DEX` (R209). -/
def execDex (s : State) : Result := impliedInstr 0xCA (fun s => (s.setX (s.cpu.x - 1)).setNZ (s.cpu.x - 1)) s

/-- $88 `DEY` (R210). -/
def execDey (s : State) : Result := impliedInstr 0x88 (fun s => (s.setY (s.cpu.y - 1)).setNZ (s.cpu.y - 1)) s

end Sys2Proof.Machine
end

