-- ==== Sys2Proof/Machine/BitSystem.lean ====
section
/-! DEFINITION. The bit-test, bit-modify and system instructions (`49_bit_system.md` R330 to R340, R345). -/

namespace Sys2Proof.Machine

/-- BIT with a memory operand writes N, V and Z (R331). -/
def bitMemoryInstr (op : Nat) (m : AddrMode) (s : State) : Result :=
  readingInstr op (.mem m) (fun v t => t.setP (t.cpu.p.bitMemory t.cpu.a v)) s

/-- BIT with an immediate operand writes Z only (R331). -/
def bitImmediateInstr (op : Nat) (v : Byte) (s : State) : Result :=
  readingInstr op (.imm v) (fun v t => t.setP (t.cpu.p.testZ t.cpu.a v)) s

/-- RMBn and SMBn: one read and one write of a zero-page byte, no flag (R334, R335). -/
def bitModifyInstr (op : Nat) (f : Byte → Byte) (z : Byte) (s : State) : Result :=
  modifyingInstr op (.mem (.zp z)) (fun v p => { value := f v, flags := p }) s

/-- $24 `BIT z` (R331). -/
def execBitZp (z : Byte) (s : State) : Result := bitMemoryInstr 0x24 (.zp z) s

/-- $2C `BIT a` (R331). -/
def execBitAbs (a : Word) (s : State) : Result := bitMemoryInstr 0x2C (.abs a) s

/-- $34 `BIT z,X` (R331). -/
def execBitZpX (z : Byte) (s : State) : Result := bitMemoryInstr 0x34 (.zpX z) s

/-- $3C `BIT a,X` (R331). -/
def execBitAbsX (a : Word) (s : State) : Result := bitMemoryInstr 0x3C (.absX a) s

/-- $89 `BIT #v` (R331). -/
def execBitImm (v : Byte) (s : State) : Result := bitImmediateInstr 0x89 v s

/-- $14 `TRB z` (R332). -/
def execTrbZp (z : Byte) (s : State) : Result := modifyingInstr 0x14 (.mem (.zp z)) (trbResult s.cpu.a) s

/-- $1C `TRB a` (R332). -/
def execTrbAbs (a : Word) (s : State) : Result := modifyingInstr 0x1C (.mem (.abs a)) (trbResult s.cpu.a) s

/-- $04 `TSB z` (R333). -/
def execTsbZp (z : Byte) (s : State) : Result := modifyingInstr 0x04 (.mem (.zp z)) (tsbResult s.cpu.a) s

/-- $0C `TSB a` (R333). -/
def execTsbAbs (a : Word) (s : State) : Result := modifyingInstr 0x0C (.mem (.abs a)) (tsbResult s.cpu.a) s

/-- $07 `RMB0 z` (R334). -/
def execRmb0 (z : Byte) (s : State) : Result := bitModifyInstr 0x07 (rmbValue 0) z s

/-- $17 `RMB1 z` (R334). -/
def execRmb1 (z : Byte) (s : State) : Result := bitModifyInstr 0x17 (rmbValue 1) z s

/-- $27 `RMB2 z` (R334). -/
def execRmb2 (z : Byte) (s : State) : Result := bitModifyInstr 0x27 (rmbValue 2) z s

/-- $37 `RMB3 z` (R334). -/
def execRmb3 (z : Byte) (s : State) : Result := bitModifyInstr 0x37 (rmbValue 3) z s

/-- $47 `RMB4 z` (R334). -/
def execRmb4 (z : Byte) (s : State) : Result := bitModifyInstr 0x47 (rmbValue 4) z s

/-- $57 `RMB5 z` (R334). -/
def execRmb5 (z : Byte) (s : State) : Result := bitModifyInstr 0x57 (rmbValue 5) z s

/-- $67 `RMB6 z` (R334). -/
def execRmb6 (z : Byte) (s : State) : Result := bitModifyInstr 0x67 (rmbValue 6) z s

/-- $77 `RMB7 z` (R334). -/
def execRmb7 (z : Byte) (s : State) : Result := bitModifyInstr 0x77 (rmbValue 7) z s

/-- $87 `SMB0 z` (R335). -/
def execSmb0 (z : Byte) (s : State) : Result := bitModifyInstr 0x87 (smbValue 0) z s

/-- $97 `SMB1 z` (R335). -/
def execSmb1 (z : Byte) (s : State) : Result := bitModifyInstr 0x97 (smbValue 1) z s

/-- $A7 `SMB2 z` (R335). -/
def execSmb2 (z : Byte) (s : State) : Result := bitModifyInstr 0xA7 (smbValue 2) z s

/-- $B7 `SMB3 z` (R335). -/
def execSmb3 (z : Byte) (s : State) : Result := bitModifyInstr 0xB7 (smbValue 3) z s

/-- $C7 `SMB4 z` (R335). -/
def execSmb4 (z : Byte) (s : State) : Result := bitModifyInstr 0xC7 (smbValue 4) z s

/-- $D7 `SMB5 z` (R335). -/
def execSmb5 (z : Byte) (s : State) : Result := bitModifyInstr 0xD7 (smbValue 5) z s

/-- $E7 `SMB6 z` (R335). -/
def execSmb6 (z : Byte) (s : State) : Result := bitModifyInstr 0xE7 (smbValue 6) z s

/-- $F7 `SMB7 z` (R335). -/
def execSmb7 (z : Byte) (s : State) : Result := bitModifyInstr 0xF7 (smbValue 7) z s

/-- $EA `NOP` (R340). -/
def execNop (s : State) : Result := impliedInstr 0xEA (fun s => s) s

/-- $CB `WAI` (R345). -/
def execWai (s : State) : Result := impliedInstr 0xCB (fun s => s.setWait true) s

end Sys2Proof.Machine
end

