-- ==== Sys2Proof/Machine/Branch.lean ====
section
/-! DEFINITION. The branch instructions (`45_branch.md`). -/

namespace Sys2Proof.Machine

/-- $90 `BCC r` (R252, R250, R251). -/
def execBcc (r : Byte) (s : State) : Result := branchInstr 0x90 r (!s.cpu.p.c) s

/-- $B0 `BCS r` (R253, R250, R251). -/
def execBcs (r : Byte) (s : State) : Result := branchInstr 0xB0 r s.cpu.p.c s

/-- $F0 `BEQ r` (R254, R250, R251). -/
def execBeq (r : Byte) (s : State) : Result := branchInstr 0xF0 r s.cpu.p.z s

/-- $D0 `BNE r` (R255, R250, R251). -/
def execBne (r : Byte) (s : State) : Result := branchInstr 0xD0 r (!s.cpu.p.z) s

/-- $30 `BMI r` (R256, R250, R251). -/
def execBmi (r : Byte) (s : State) : Result := branchInstr 0x30 r s.cpu.p.n s

/-- $10 `BPL r` (R257, R250, R251). -/
def execBpl (r : Byte) (s : State) : Result := branchInstr 0x10 r (!s.cpu.p.n) s

/-- $50 `BVC r` (R258, R250, R251). -/
def execBvc (r : Byte) (s : State) : Result := branchInstr 0x50 r (!s.cpu.p.v) s

/-- $70 `BVS r` (R259, R250, R251). -/
def execBvs (r : Byte) (s : State) : Result := branchInstr 0x70 r s.cpu.p.v s

/-- $80 `BRA r` (R260, R250, R251). -/
def execBra (r : Byte) (s : State) : Result := branchInstr 0x80 r true s

/-- $0F `BBR0 z,r` (R261, R251). -/
def execBbr0 (z : Byte) (r : Byte) (s : State) : Result := bitBranchInstr 0x0F 0 false z r s

/-- $1F `BBR1 z,r` (R261, R251). -/
def execBbr1 (z : Byte) (r : Byte) (s : State) : Result := bitBranchInstr 0x1F 1 false z r s

/-- $2F `BBR2 z,r` (R261, R251). -/
def execBbr2 (z : Byte) (r : Byte) (s : State) : Result := bitBranchInstr 0x2F 2 false z r s

/-- $3F `BBR3 z,r` (R261, R251). -/
def execBbr3 (z : Byte) (r : Byte) (s : State) : Result := bitBranchInstr 0x3F 3 false z r s

/-- $4F `BBR4 z,r` (R261, R251). -/
def execBbr4 (z : Byte) (r : Byte) (s : State) : Result := bitBranchInstr 0x4F 4 false z r s

/-- $5F `BBR5 z,r` (R261, R251). -/
def execBbr5 (z : Byte) (r : Byte) (s : State) : Result := bitBranchInstr 0x5F 5 false z r s

/-- $6F `BBR6 z,r` (R261, R251). -/
def execBbr6 (z : Byte) (r : Byte) (s : State) : Result := bitBranchInstr 0x6F 6 false z r s

/-- $7F `BBR7 z,r` (R261, R251). -/
def execBbr7 (z : Byte) (r : Byte) (s : State) : Result := bitBranchInstr 0x7F 7 false z r s

/-- $8F `BBS0 z,r` (R262, R251). -/
def execBbs0 (z : Byte) (r : Byte) (s : State) : Result := bitBranchInstr 0x8F 0 true z r s

/-- $9F `BBS1 z,r` (R262, R251). -/
def execBbs1 (z : Byte) (r : Byte) (s : State) : Result := bitBranchInstr 0x9F 1 true z r s

/-- $AF `BBS2 z,r` (R262, R251). -/
def execBbs2 (z : Byte) (r : Byte) (s : State) : Result := bitBranchInstr 0xAF 2 true z r s

/-- $BF `BBS3 z,r` (R262, R251). -/
def execBbs3 (z : Byte) (r : Byte) (s : State) : Result := bitBranchInstr 0xBF 3 true z r s

/-- $CF `BBS4 z,r` (R262, R251). -/
def execBbs4 (z : Byte) (r : Byte) (s : State) : Result := bitBranchInstr 0xCF 4 true z r s

/-- $DF `BBS5 z,r` (R262, R251). -/
def execBbs5 (z : Byte) (r : Byte) (s : State) : Result := bitBranchInstr 0xDF 5 true z r s

/-- $EF `BBS6 z,r` (R262, R251). -/
def execBbs6 (z : Byte) (r : Byte) (s : State) : Result := bitBranchInstr 0xEF 6 true z r s

/-- $FF `BBS7 z,r` (R262, R251). -/
def execBbs7 (z : Byte) (r : Byte) (s : State) : Result := bitBranchInstr 0xFF 7 true z r s

end Sys2Proof.Machine
end

