-- ==== Sys2Proof/Machine/Compare.lean ====
section
/-! DEFINITION. The compare instructions (`44_compare.md`). -/

namespace Sys2Proof.Machine

/-- A compare writes N, Z and C from the difference and no register (R240). -/
def compareWith (reg : Byte) (op : Nat) (o : Operand) (s : State) : Result :=
  readingInstr op o (fun v t => t.setP (compareFlags reg v t.cpu.p)) s

/-- $C1 `CMP (z,X)` (R241). -/
def execCmpIndX (z : Byte) (s : State) : Result := compareWith s.cpu.a 0xC1 (.mem (.indX z)) s

/-- $C5 `CMP z` (R241). -/
def execCmpZp (z : Byte) (s : State) : Result := compareWith s.cpu.a 0xC5 (.mem (.zp z)) s

/-- $C9 `CMP #v` (R241). -/
def execCmpImm (v : Byte) (s : State) : Result := compareWith s.cpu.a 0xC9 (.imm v) s

/-- $CD `CMP a` (R241). -/
def execCmpAbs (a : Word) (s : State) : Result := compareWith s.cpu.a 0xCD (.mem (.abs a)) s

/-- $D1 `CMP (z),Y` (R241). -/
def execCmpIndY (z : Byte) (s : State) : Result := compareWith s.cpu.a 0xD1 (.mem (.indY z)) s

/-- $D2 `CMP (z)` (R241). -/
def execCmpIzp (z : Byte) (s : State) : Result := compareWith s.cpu.a 0xD2 (.mem (.izp z)) s

/-- $D5 `CMP z,X` (R241). -/
def execCmpZpX (z : Byte) (s : State) : Result := compareWith s.cpu.a 0xD5 (.mem (.zpX z)) s

/-- $D9 `CMP a,Y` (R241). -/
def execCmpAbsY (a : Word) (s : State) : Result := compareWith s.cpu.a 0xD9 (.mem (.absY a)) s

/-- $DD `CMP a,X` (R241). -/
def execCmpAbsX (a : Word) (s : State) : Result := compareWith s.cpu.a 0xDD (.mem (.absX a)) s

/-- $E0 `CPX #v` (R242). -/
def execCpxImm (v : Byte) (s : State) : Result := compareWith s.cpu.x 0xE0 (.imm v) s

/-- $E4 `CPX z` (R242). -/
def execCpxZp (z : Byte) (s : State) : Result := compareWith s.cpu.x 0xE4 (.mem (.zp z)) s

/-- $EC `CPX a` (R242). -/
def execCpxAbs (a : Word) (s : State) : Result := compareWith s.cpu.x 0xEC (.mem (.abs a)) s

/-- $C0 `CPY #v` (R243). -/
def execCpyImm (v : Byte) (s : State) : Result := compareWith s.cpu.y 0xC0 (.imm v) s

/-- $C4 `CPY z` (R243). -/
def execCpyZp (z : Byte) (s : State) : Result := compareWith s.cpu.y 0xC4 (.mem (.zp z)) s

/-- $CC `CPY a` (R243). -/
def execCpyAbs (a : Word) (s : State) : Result := compareWith s.cpu.y 0xCC (.mem (.abs a)) s

end Sys2Proof.Machine
end

