-- ==== Sys2Proof/Machine/FlagTransfer.lean ====
section
/-! DEFINITION. The flag and register-transfer instructions (`48_flag_transfer.md`). -/

namespace Sys2Proof.Machine

/-- $18 `CLC` (R311). -/
def execClc (s : State) : Result := impliedInstr 0x18 (fun s => s.setP { s.cpu.p with c := false }) s

/-- $38 `SEC` (R312). -/
def execSec (s : State) : Result := impliedInstr 0x38 (fun s => s.setP { s.cpu.p with c := true }) s

/-- $58 `CLI` (R313). -/
def execCli (s : State) : Result := impliedInstr 0x58 (fun s => s.setP { s.cpu.p with i := false }) s

/-- $78 `SEI` (R314). -/
def execSei (s : State) : Result := impliedInstr 0x78 (fun s => s.setP { s.cpu.p with i := true }) s

/-- $D8 `CLD` (R315). -/
def execCld (s : State) : Result := impliedInstr 0xD8 (fun s => s.setP { s.cpu.p with d := false }) s

/-- $F8 `SED` (R316). -/
def execSed (s : State) : Result := impliedInstr 0xF8 (fun s => s.setP { s.cpu.p with d := true }) s

/-- $B8 `CLV` (R317). -/
def execClv (s : State) : Result := impliedInstr 0xB8 (fun s => s.setP { s.cpu.p with v := false }) s

/-- $AA `TAX` (R318). -/
def execTax (s : State) : Result := impliedInstr 0xAA (fun s => (s.setX s.cpu.a).setNZ s.cpu.a) s

/-- $A8 `TAY` (R319). -/
def execTay (s : State) : Result := impliedInstr 0xA8 (fun s => (s.setY s.cpu.a).setNZ s.cpu.a) s

/-- $8A `TXA` (R320). -/
def execTxa (s : State) : Result := impliedInstr 0x8A (fun s => (s.setA s.cpu.x).setNZ s.cpu.x) s

/-- $98 `TYA` (R321). -/
def execTya (s : State) : Result := impliedInstr 0x98 (fun s => (s.setA s.cpu.y).setNZ s.cpu.y) s

/-- $BA `TSX` (R322). -/
def execTsx (s : State) : Result := impliedInstr 0xBA (fun s => (s.setX s.cpu.sp).setNZ s.cpu.sp) s

/-- $9A `TXS` (R323). -/
def execTxs (s : State) : Result := impliedInstr 0x9A (fun s => s.setSp s.cpu.x) s

end Sys2Proof.Machine
end

