-- ==== Sys2Proof/Machine/Jump.lean ====
section
/-! DEFINITION. The jump, subroutine and software-interrupt instructions (`46_jump_subroutine.md`). -/

namespace Sys2Proof.Machine

/-- A jump through a pointer in memory: both bytes of the target are read, low byte first (R272, R273). -/
def jumpIndirect (op : Nat) (ptr : Word) (s : State) : Result :=
  let w := read16 ptr s
  .next ((w.2.setPc w.1).chargeOp op false)

/-- Jump to subroutine: the address of the last byte of the JSR is pushed (R274). -/
def callSubroutine (target : Word) (s : State) : State := (push16 (s.cpu.pc - 1) s).setPc target

/-- Return from subroutine: the pulled address plus 1 (R277). -/
def returnSubroutine (s : State) : State :=
  let w := pull16 s
  w.2.setPc (w.1 + 1)

/-- $4C `JMP a` (R271). -/
def execJmpAbs (a : Word) (s : State) : Result := impliedInstr 0x4C (fun s => s.setPc a) s

/-- $6C `JMP (a)` (R272). -/
def execJmpInd (a : Word) (s : State) : Result := jumpIndirect 0x6C a s

/-- $7C `JMP (a,X)` (R273). -/
def execJmpAix (a : Word) (s : State) : Result := jumpIndirect 0x7C (a + zext16 s.cpu.x) s

/-- $20 `JSR a` (R274). -/
def execJsr (a : Word) (s : State) : Result := impliedInstr 0x20 (callSubroutine a) s

/-- $40 `RTI` (R275). -/
def execRti (s : State) : Result := impliedInstr 0x40 returnFromTrap s

/-- $00 `BRK` (R276). -/
def execBrk (s : State) : Result := impliedInstr 0x00 (takeTrap .brk) s

/-- $60 `RTS` (R277). -/
def execRts (s : State) : Result := impliedInstr 0x60 returnSubroutine s

end Sys2Proof.Machine
end

