-- ==== Sys2Proof/Machine/LoadStore.lean ====
section
/-! DEFINITION. The load and store instructions (`40_load_store.md`). -/

namespace Sys2Proof.Machine

/-- A load into `A`: the register takes the operand, N and Z follow it (R180, R181). -/
def loadA (op : Nat) (o : Operand) (s : State) : Result := readingInstr op o (fun v t => (t.setA v).setNZ v) s

/-- A load into `X` (R180, R182). -/
def loadX (op : Nat) (o : Operand) (s : State) : Result := readingInstr op o (fun v t => (t.setX v).setNZ v) s

/-- A load into `Y` (R180, R183). -/
def loadY (op : Nat) (o : Operand) (s : State) : Result := readingInstr op o (fun v t => (t.setY v).setNZ v) s

/-- $A1 `LDA (z,X)` (R181). -/
def execLdaIndX (z : Byte) (s : State) : Result := loadA 0xA1 (.mem (.indX z)) s

/-- $A5 `LDA z` (R181). -/
def execLdaZp (z : Byte) (s : State) : Result := loadA 0xA5 (.mem (.zp z)) s

/-- $A9 `LDA #v` (R181). -/
def execLdaImm (v : Byte) (s : State) : Result := loadA 0xA9 (.imm v) s

/-- $AD `LDA a` (R181). -/
def execLdaAbs (a : Word) (s : State) : Result := loadA 0xAD (.mem (.abs a)) s

/-- $B1 `LDA (z),Y` (R181). -/
def execLdaIndY (z : Byte) (s : State) : Result := loadA 0xB1 (.mem (.indY z)) s

/-- $B2 `LDA (z)` (R181). -/
def execLdaIzp (z : Byte) (s : State) : Result := loadA 0xB2 (.mem (.izp z)) s

/-- $B5 `LDA z,X` (R181). -/
def execLdaZpX (z : Byte) (s : State) : Result := loadA 0xB5 (.mem (.zpX z)) s

/-- $B9 `LDA a,Y` (R181). -/
def execLdaAbsY (a : Word) (s : State) : Result := loadA 0xB9 (.mem (.absY a)) s

/-- $BD `LDA a,X` (R181). -/
def execLdaAbsX (a : Word) (s : State) : Result := loadA 0xBD (.mem (.absX a)) s

/-- $A2 `LDX #v` (R182). -/
def execLdxImm (v : Byte) (s : State) : Result := loadX 0xA2 (.imm v) s

/-- $A6 `LDX z` (R182). -/
def execLdxZp (z : Byte) (s : State) : Result := loadX 0xA6 (.mem (.zp z)) s

/-- $AE `LDX a` (R182). -/
def execLdxAbs (a : Word) (s : State) : Result := loadX 0xAE (.mem (.abs a)) s

/-- $B6 `LDX z,Y` (R182). -/
def execLdxZpY (z : Byte) (s : State) : Result := loadX 0xB6 (.mem (.zpY z)) s

/-- $BE `LDX a,Y` (R182). -/
def execLdxAbsY (a : Word) (s : State) : Result := loadX 0xBE (.mem (.absY a)) s

/-- $A0 `LDY #v` (R183). -/
def execLdyImm (v : Byte) (s : State) : Result := loadY 0xA0 (.imm v) s

/-- $A4 `LDY z` (R183). -/
def execLdyZp (z : Byte) (s : State) : Result := loadY 0xA4 (.mem (.zp z)) s

/-- $AC `LDY a` (R183). -/
def execLdyAbs (a : Word) (s : State) : Result := loadY 0xAC (.mem (.abs a)) s

/-- $B4 `LDY z,X` (R183). -/
def execLdyZpX (z : Byte) (s : State) : Result := loadY 0xB4 (.mem (.zpX z)) s

/-- $BC `LDY a,X` (R183). -/
def execLdyAbsX (a : Word) (s : State) : Result := loadY 0xBC (.mem (.absX a)) s

/-- $81 `STA (z,X)` (R184). -/
def execStaIndX (z : Byte) (s : State) : Result := storingInstr 0x81 (.indX z) s.cpu.a s

/-- $85 `STA z` (R184). -/
def execStaZp (z : Byte) (s : State) : Result := storingInstr 0x85 (.zp z) s.cpu.a s

/-- $8D `STA a` (R184). -/
def execStaAbs (a : Word) (s : State) : Result := storingInstr 0x8D (.abs a) s.cpu.a s

/-- $91 `STA (z),Y` (R184). -/
def execStaIndY (z : Byte) (s : State) : Result := storingInstr 0x91 (.indY z) s.cpu.a s

/-- $92 `STA (z)` (R184). -/
def execStaIzp (z : Byte) (s : State) : Result := storingInstr 0x92 (.izp z) s.cpu.a s

/-- $95 `STA z,X` (R184). -/
def execStaZpX (z : Byte) (s : State) : Result := storingInstr 0x95 (.zpX z) s.cpu.a s

/-- $99 `STA a,Y` (R184). -/
def execStaAbsY (a : Word) (s : State) : Result := storingInstr 0x99 (.absY a) s.cpu.a s

/-- $9D `STA a,X` (R184). -/
def execStaAbsX (a : Word) (s : State) : Result := storingInstr 0x9D (.absX a) s.cpu.a s

/-- $86 `STX z` (R185). -/
def execStxZp (z : Byte) (s : State) : Result := storingInstr 0x86 (.zp z) s.cpu.x s

/-- $8E `STX a` (R185). -/
def execStxAbs (a : Word) (s : State) : Result := storingInstr 0x8E (.abs a) s.cpu.x s

/-- $96 `STX z,Y` (R185). -/
def execStxZpY (z : Byte) (s : State) : Result := storingInstr 0x96 (.zpY z) s.cpu.x s

/-- $84 `STY z` (R186). -/
def execStyZp (z : Byte) (s : State) : Result := storingInstr 0x84 (.zp z) s.cpu.y s

/-- $8C `STY a` (R186). -/
def execStyAbs (a : Word) (s : State) : Result := storingInstr 0x8C (.abs a) s.cpu.y s

/-- $94 `STY z,X` (R186). -/
def execStyZpX (z : Byte) (s : State) : Result := storingInstr 0x94 (.zpX z) s.cpu.y s

/-- $64 `STZ z` (R187). -/
def execStzZp (z : Byte) (s : State) : Result := storingInstr 0x64 (.zp z) 0x00#8 s

/-- $74 `STZ z,X` (R187). -/
def execStzZpX (z : Byte) (s : State) : Result := storingInstr 0x74 (.zpX z) 0x00#8 s

/-- $9C `STZ a` (R187). -/
def execStzAbs (a : Word) (s : State) : Result := storingInstr 0x9C (.abs a) 0x00#8 s

/-- $9E `STZ a,X` (R187). -/
def execStzAbsX (a : Word) (s : State) : Result := storingInstr 0x9E (.absX a) 0x00#8 s

end Sys2Proof.Machine
end

