-- ==== Sys2Proof/Machine/Logical.lean ====
section
/-! DEFINITION. The logical instructions (`42_logical.md`). -/

namespace Sys2Proof.Machine

/-- AND, ORA, EOR: `A` takes the combination, N and Z follow it (R220). -/
def combine (f : Byte → Byte → Byte) (op : Nat) (o : Operand) (s : State) : Result :=
  readingInstr op o (fun v t => (t.setA (f t.cpu.a v)).setNZ (f t.cpu.a v)) s

/-- $21 `AND (z,X)` (R221). -/
def execAndIndX (z : Byte) (s : State) : Result := combine (fun a v => a &&& v) 0x21 (.mem (.indX z)) s

/-- $25 `AND z` (R221). -/
def execAndZp (z : Byte) (s : State) : Result := combine (fun a v => a &&& v) 0x25 (.mem (.zp z)) s

/-- $29 `AND #v` (R221). -/
def execAndImm (v : Byte) (s : State) : Result := combine (fun a v => a &&& v) 0x29 (.imm v) s

/-- $2D `AND a` (R221). -/
def execAndAbs (a : Word) (s : State) : Result := combine (fun a v => a &&& v) 0x2D (.mem (.abs a)) s

/-- $31 `AND (z),Y` (R221). -/
def execAndIndY (z : Byte) (s : State) : Result := combine (fun a v => a &&& v) 0x31 (.mem (.indY z)) s

/-- $32 `AND (z)` (R221). -/
def execAndIzp (z : Byte) (s : State) : Result := combine (fun a v => a &&& v) 0x32 (.mem (.izp z)) s

/-- $35 `AND z,X` (R221). -/
def execAndZpX (z : Byte) (s : State) : Result := combine (fun a v => a &&& v) 0x35 (.mem (.zpX z)) s

/-- $39 `AND a,Y` (R221). -/
def execAndAbsY (a : Word) (s : State) : Result := combine (fun a v => a &&& v) 0x39 (.mem (.absY a)) s

/-- $3D `AND a,X` (R221). -/
def execAndAbsX (a : Word) (s : State) : Result := combine (fun a v => a &&& v) 0x3D (.mem (.absX a)) s

/-- $01 `ORA (z,X)` (R222). -/
def execOraIndX (z : Byte) (s : State) : Result := combine (fun a v => a ||| v) 0x01 (.mem (.indX z)) s

/-- $05 `ORA z` (R222). -/
def execOraZp (z : Byte) (s : State) : Result := combine (fun a v => a ||| v) 0x05 (.mem (.zp z)) s

/-- $09 `ORA #v` (R222). -/
def execOraImm (v : Byte) (s : State) : Result := combine (fun a v => a ||| v) 0x09 (.imm v) s

/-- $0D `ORA a` (R222). -/
def execOraAbs (a : Word) (s : State) : Result := combine (fun a v => a ||| v) 0x0D (.mem (.abs a)) s

/-- $11 `ORA (z),Y` (R222). -/
def execOraIndY (z : Byte) (s : State) : Result := combine (fun a v => a ||| v) 0x11 (.mem (.indY z)) s

/-- $12 `ORA (z)` (R222). -/
def execOraIzp (z : Byte) (s : State) : Result := combine (fun a v => a ||| v) 0x12 (.mem (.izp z)) s

/-- $15 `ORA z,X` (R222). -/
def execOraZpX (z : Byte) (s : State) : Result := combine (fun a v => a ||| v) 0x15 (.mem (.zpX z)) s

/-- $19 `ORA a,Y` (R222). -/
def execOraAbsY (a : Word) (s : State) : Result := combine (fun a v => a ||| v) 0x19 (.mem (.absY a)) s

/-- $1D `ORA a,X` (R222). -/
def execOraAbsX (a : Word) (s : State) : Result := combine (fun a v => a ||| v) 0x1D (.mem (.absX a)) s

/-- $41 `EOR (z,X)` (R223). -/
def execEorIndX (z : Byte) (s : State) : Result := combine (fun a v => a ^^^ v) 0x41 (.mem (.indX z)) s

/-- $45 `EOR z` (R223). -/
def execEorZp (z : Byte) (s : State) : Result := combine (fun a v => a ^^^ v) 0x45 (.mem (.zp z)) s

/-- $49 `EOR #v` (R223). -/
def execEorImm (v : Byte) (s : State) : Result := combine (fun a v => a ^^^ v) 0x49 (.imm v) s

/-- $4D `EOR a` (R223). -/
def execEorAbs (a : Word) (s : State) : Result := combine (fun a v => a ^^^ v) 0x4D (.mem (.abs a)) s

/-- $51 `EOR (z),Y` (R223). -/
def execEorIndY (z : Byte) (s : State) : Result := combine (fun a v => a ^^^ v) 0x51 (.mem (.indY z)) s

/-- $52 `EOR (z)` (R223). -/
def execEorIzp (z : Byte) (s : State) : Result := combine (fun a v => a ^^^ v) 0x52 (.mem (.izp z)) s

/-- $55 `EOR z,X` (R223). -/
def execEorZpX (z : Byte) (s : State) : Result := combine (fun a v => a ^^^ v) 0x55 (.mem (.zpX z)) s

/-- $59 `EOR a,Y` (R223). -/
def execEorAbsY (a : Word) (s : State) : Result := combine (fun a v => a ^^^ v) 0x59 (.mem (.absY a)) s

/-- $5D `EOR a,X` (R223). -/
def execEorAbsX (a : Word) (s : State) : Result := combine (fun a v => a ^^^ v) 0x5D (.mem (.absX a)) s

end Sys2Proof.Machine
end

