-- ==== Sys2Proof/Machine/Shift.lean ====
section
/-! DEFINITION. The shift and rotate instructions (`43_shift_rotate.md`). -/

namespace Sys2Proof.Machine

/-- $06 `ASL z` (R231). -/
def execAslZp (z : Byte) (s : State) : Result := modifyingInstr 0x06 (.mem (.zp z)) aslResult s

/-- $0A `ASL A` (R231). -/
def execAslAcc (s : State) : Result := modifyingInstr 0x0A .acc aslResult s

/-- $0E `ASL a` (R231). -/
def execAslAbs (a : Word) (s : State) : Result := modifyingInstr 0x0E (.mem (.abs a)) aslResult s

/-- $16 `ASL z,X` (R231). -/
def execAslZpX (z : Byte) (s : State) : Result := modifyingInstr 0x16 (.mem (.zpX z)) aslResult s

/-- $1E `ASL a,X` (R231). -/
def execAslAbsX (a : Word) (s : State) : Result := modifyingInstr 0x1E (.mem (.absX a)) aslResult s

/-- $46 `LSR z` (R232). -/
def execLsrZp (z : Byte) (s : State) : Result := modifyingInstr 0x46 (.mem (.zp z)) lsrResult s

/-- $4A `LSR A` (R232). -/
def execLsrAcc (s : State) : Result := modifyingInstr 0x4A .acc lsrResult s

/-- $4E `LSR a` (R232). -/
def execLsrAbs (a : Word) (s : State) : Result := modifyingInstr 0x4E (.mem (.abs a)) lsrResult s

/-- $56 `LSR z,X` (R232). -/
def execLsrZpX (z : Byte) (s : State) : Result := modifyingInstr 0x56 (.mem (.zpX z)) lsrResult s

/-- $5E `LSR a,X` (R232). -/
def execLsrAbsX (a : Word) (s : State) : Result := modifyingInstr 0x5E (.mem (.absX a)) lsrResult s

/-- $26 `ROL z` (R233). -/
def execRolZp (z : Byte) (s : State) : Result := modifyingInstr 0x26 (.mem (.zp z)) rolResult s

/-- $2A `ROL A` (R233). -/
def execRolAcc (s : State) : Result := modifyingInstr 0x2A .acc rolResult s

/-- $2E `ROL a` (R233). -/
def execRolAbs (a : Word) (s : State) : Result := modifyingInstr 0x2E (.mem (.abs a)) rolResult s

/-- $36 `ROL z,X` (R233). -/
def execRolZpX (z : Byte) (s : State) : Result := modifyingInstr 0x36 (.mem (.zpX z)) rolResult s

/-- $3E `ROL a,X` (R233). -/
def execRolAbsX (a : Word) (s : State) : Result := modifyingInstr 0x3E (.mem (.absX a)) rolResult s

/-- $66 `ROR z` (R234). -/
def execRorZp (z : Byte) (s : State) : Result := modifyingInstr 0x66 (.mem (.zp z)) rorResult s

/-- $6A `ROR A` (R234). -/
def execRorAcc (s : State) : Result := modifyingInstr 0x6A .acc rorResult s

/-- $6E `ROR a` (R234). -/
def execRorAbs (a : Word) (s : State) : Result := modifyingInstr 0x6E (.mem (.abs a)) rorResult s

/-- $76 `ROR z,X` (R234). -/
def execRorZpX (z : Byte) (s : State) : Result := modifyingInstr 0x76 (.mem (.zpX z)) rorResult s

/-- $7E `ROR a,X` (R234). -/
def execRorAbsX (a : Word) (s : State) : Result := modifyingInstr 0x7E (.mem (.absX a)) rorResult s

end Sys2Proof.Machine
end

