-- ==== Sys2Proof/Machine/Stack.lean ====
section
/-! DEFINITION. The stack instructions (`47_stack.md`). -/

namespace Sys2Proof.Machine

/-- A pull into a register: N and Z follow it (R295, R296, R298). -/
def pullInto (set : State → Byte → State) (s : State) : State :=
  let v := pull8 s
  (set v.2 v.1).setNZ v.1

/-- The status byte PHP pushes: bits 4 and 5 set (R292). -/
def phpByte (f : Flags) : Byte := f.pack ||| 0x30#8

/-- `P <- Pull8()` (R297). -/
def pullStatus (s : State) : State :=
  let v := pull8 s
  v.2.setP (Flags.unpack v.1)

/-- $48 `PHA` (R291). -/
def execPha (s : State) : Result := impliedInstr 0x48 (push8 s.cpu.a) s

/-- $08 `PHP` (R292). -/
def execPhp (s : State) : Result := impliedInstr 0x08 (push8 (phpByte s.cpu.p)) s

/-- $DA `PHX` (R293). -/
def execPhx (s : State) : Result := impliedInstr 0xDA (push8 s.cpu.x) s

/-- $5A `PHY` (R294). -/
def execPhy (s : State) : Result := impliedInstr 0x5A (push8 s.cpu.y) s

/-- $68 `PLA` (R295). -/
def execPla (s : State) : Result := impliedInstr 0x68 (pullInto State.setA) s

/-- $FA `PLX` (R296). -/
def execPlx (s : State) : Result := impliedInstr 0xFA (pullInto State.setX) s

/-- $28 `PLP` (R297). -/
def execPlp (s : State) : Result := impliedInstr 0x28 pullStatus s

/-- $7A `PLY` (R298). -/
def execPly (s : State) : Result := impliedInstr 0x7A (pullInto State.setY) s

end Sys2Proof.Machine
end

