-- ==== Sys2Proof/Machine/Unmapped.lean ====
section
/-! DEFINITION. The 45 unmapped opcodes, which execute as no-operations (`49_bit_system.md` R341, R342). -/

namespace Sys2Proof.Machine

/-- An unmapped opcode: nothing but the charge, and with `UNMAPPED_LENGTH` above 1 the bytes skipped (R341; log 14).
DESIGN CHOICE (log 30): the spec gives the parameter no range; a length of 0 acts as 1, since the opcode byte is fetched. -/
def unmappedInstr (op : Nat) (s : State) : Result :=
  impliedInstr op (fun s => s.setPc (s.cpu.pc + BitVec.ofNat 16 (s.cfg.unmappedLength - 1))) s

/-- Opcode $DB with `OPCODE_DB = stop`: the CPU stops until `reset()`, 3 cycles (R342). -/
def stopCpu (s : State) : Result := .next ((s.setStopped true).charge 3)

/-- $02 `unmapped` (R341). -/
def execUnmapped02 (s : State) : Result := unmappedInstr 0x02 s

/-- $03 `unmapped` (R341). -/
def execUnmapped03 (s : State) : Result := unmappedInstr 0x03 s

/-- $0B `unmapped` (R341). -/
def execUnmapped0B (s : State) : Result := unmappedInstr 0x0B s

/-- $13 `unmapped` (R341). -/
def execUnmapped13 (s : State) : Result := unmappedInstr 0x13 s

/-- $1B `unmapped` (R341). -/
def execUnmapped1B (s : State) : Result := unmappedInstr 0x1B s

/-- $22 `unmapped` (R341). -/
def execUnmapped22 (s : State) : Result := unmappedInstr 0x22 s

/-- $23 `unmapped` (R341). -/
def execUnmapped23 (s : State) : Result := unmappedInstr 0x23 s

/-- $2B `unmapped` (R341). -/
def execUnmapped2B (s : State) : Result := unmappedInstr 0x2B s

/-- $33 `unmapped` (R341). -/
def execUnmapped33 (s : State) : Result := unmappedInstr 0x33 s

/-- $3B `unmapped` (R341). -/
def execUnmapped3B (s : State) : Result := unmappedInstr 0x3B s

/-- $42 `unmapped` (R341). -/
def execUnmapped42 (s : State) : Result := unmappedInstr 0x42 s

/-- $43 `unmapped` (R341). -/
def execUnmapped43 (s : State) : Result := unmappedInstr 0x43 s

/-- $44 `unmapped` (R341). -/
def execUnmapped44 (s : State) : Result := unmappedInstr 0x44 s

/-- $4B `unmapped` (R341). -/
def execUnmapped4B (s : State) : Result := unmappedInstr 0x4B s

/-- $53 `unmapped` (R341). -/
def execUnmapped53 (s : State) : Result := unmappedInstr 0x53 s

/-- $54 `unmapped` (R341). -/
def execUnmapped54 (s : State) : Result := unmappedInstr 0x54 s

/-- $5B `unmapped` (R341). -/
def execUnmapped5B (s : State) : Result := unmappedInstr 0x5B s

/-- $5C `unmapped` (R341). -/
def execUnmapped5C (s : State) : Result := unmappedInstr 0x5C s

/-- $62 `unmapped` (R341). -/
def execUnmapped62 (s : State) : Result := unmappedInstr 0x62 s

/-- $63 `unmapped` (R341). -/
def execUnmapped63 (s : State) : Result := unmappedInstr 0x63 s

/-- $6B `unmapped` (R341). -/
def execUnmapped6B (s : State) : Result := unmappedInstr 0x6B s

/-- $73 `unmapped` (R341). -/
def execUnmapped73 (s : State) : Result := unmappedInstr 0x73 s

/-- $7B `unmapped` (R341). -/
def execUnmapped7B (s : State) : Result := unmappedInstr 0x7B s

/-- $82 `unmapped` (R341). -/
def execUnmapped82 (s : State) : Result := unmappedInstr 0x82 s

/-- $83 `unmapped` (R341). -/
def execUnmapped83 (s : State) : Result := unmappedInstr 0x83 s

/-- $8B `unmapped` (R341). -/
def execUnmapped8B (s : State) : Result := unmappedInstr 0x8B s

/-- $93 `unmapped` (R341). -/
def execUnmapped93 (s : State) : Result := unmappedInstr 0x93 s

/-- $9B `unmapped` (R341). -/
def execUnmapped9B (s : State) : Result := unmappedInstr 0x9B s

/-- $A3 `unmapped` (R341). -/
def execUnmappedA3 (s : State) : Result := unmappedInstr 0xA3 s

/-- $AB `unmapped` (R341). -/
def execUnmappedAB (s : State) : Result := unmappedInstr 0xAB s

/-- $B3 `unmapped` (R341). -/
def execUnmappedB3 (s : State) : Result := unmappedInstr 0xB3 s

/-- $BB `unmapped` (R341). -/
def execUnmappedBB (s : State) : Result := unmappedInstr 0xBB s

/-- $C2 `unmapped` (R341). -/
def execUnmappedC2 (s : State) : Result := unmappedInstr 0xC2 s

/-- $C3 `unmapped` (R341). -/
def execUnmappedC3 (s : State) : Result := unmappedInstr 0xC3 s

/-- $D3 `unmapped` (R341). -/
def execUnmappedD3 (s : State) : Result := unmappedInstr 0xD3 s

/-- $D4 `unmapped` (R341). -/
def execUnmappedD4 (s : State) : Result := unmappedInstr 0xD4 s

/-- $DB (R342): by `OPCODE_DB` an unmapped opcode or the stop of the CPU. -/
def execUnmappedDB (s : State) : Result :=
  match s.cfg.opcodeDb with
  | .nop => unmappedInstr 0xDB s
  | .stop => stopCpu s

/-- $DC `unmapped` (R341). -/
def execUnmappedDC (s : State) : Result := unmappedInstr 0xDC s

/-- $E2 `unmapped` (R341). -/
def execUnmappedE2 (s : State) : Result := unmappedInstr 0xE2 s

/-- $E3 `unmapped` (R341). -/
def execUnmappedE3 (s : State) : Result := unmappedInstr 0xE3 s

/-- $EB `unmapped` (R341). -/
def execUnmappedEB (s : State) : Result := unmappedInstr 0xEB s

/-- $F3 `unmapped` (R341). -/
def execUnmappedF3 (s : State) : Result := unmappedInstr 0xF3 s

/-- $F4 `unmapped` (R341). -/
def execUnmappedF4 (s : State) : Result := unmappedInstr 0xF4 s

/-- $FB `unmapped` (R341). -/
def execUnmappedFB (s : State) : Result := unmappedInstr 0xFB s

/-- $FC `unmapped` (R341). -/
def execUnmappedFC (s : State) : Result := unmappedInstr 0xFC s

end Sys2Proof.Machine
end

