-- ==== Sys2Proof/Machine/Dispatch.lean ====
section
/-! DEFINITION. `exec`: the meaning of each instruction, one arm per constructor of `Instr`. -/

namespace Sys2Proof.Machine

def exec (i : Instr) (s : State) : Host.Outcome State Fault Refusal :=
  match i with
  | .ldaIndX z => Sys2Proof.Machine.execLdaIndX z s
  | .ldaZp z => Sys2Proof.Machine.execLdaZp z s
  | .ldaImm v => Sys2Proof.Machine.execLdaImm v s
  | .ldaAbs a => Sys2Proof.Machine.execLdaAbs a s
  | .ldaIndY z => Sys2Proof.Machine.execLdaIndY z s
  | .ldaIzp z => Sys2Proof.Machine.execLdaIzp z s
  | .ldaZpX z => Sys2Proof.Machine.execLdaZpX z s
  | .ldaAbsY a => Sys2Proof.Machine.execLdaAbsY a s
  | .ldaAbsX a => Sys2Proof.Machine.execLdaAbsX a s
  | .ldxImm v => Sys2Proof.Machine.execLdxImm v s
  | .ldxZp z => Sys2Proof.Machine.execLdxZp z s
  | .ldxAbs a => Sys2Proof.Machine.execLdxAbs a s
  | .ldxZpY z => Sys2Proof.Machine.execLdxZpY z s
  | .ldxAbsY a => Sys2Proof.Machine.execLdxAbsY a s
  | .ldyImm v => Sys2Proof.Machine.execLdyImm v s
  | .ldyZp z => Sys2Proof.Machine.execLdyZp z s
  | .ldyAbs a => Sys2Proof.Machine.execLdyAbs a s
  | .ldyZpX z => Sys2Proof.Machine.execLdyZpX z s
  | .ldyAbsX a => Sys2Proof.Machine.execLdyAbsX a s
  | .staIndX z => Sys2Proof.Machine.execStaIndX z s
  | .staZp z => Sys2Proof.Machine.execStaZp z s
  | .staAbs a => Sys2Proof.Machine.execStaAbs a s
  | .staIndY z => Sys2Proof.Machine.execStaIndY z s
  | .staIzp z => Sys2Proof.Machine.execStaIzp z s
  | .staZpX z => Sys2Proof.Machine.execStaZpX z s
  | .staAbsY a => Sys2Proof.Machine.execStaAbsY a s
  | .staAbsX a => Sys2Proof.Machine.execStaAbsX a s
  | .stxZp z => Sys2Proof.Machine.execStxZp z s
  | .stxAbs a => Sys2Proof.Machine.execStxAbs a s
  | .stxZpY z => Sys2Proof.Machine.execStxZpY z s
  | .styZp z => Sys2Proof.Machine.execStyZp z s
  | .styAbs a => Sys2Proof.Machine.execStyAbs a s
  | .styZpX z => Sys2Proof.Machine.execStyZpX z s
  | .stzZp z => Sys2Proof.Machine.execStzZp z s
  | .stzZpX z => Sys2Proof.Machine.execStzZpX z s
  | .stzAbs a => Sys2Proof.Machine.execStzAbs a s
  | .stzAbsX a => Sys2Proof.Machine.execStzAbsX a s
  | .adcIndX z => Sys2Proof.Machine.execAdcIndX z s
  | .adcZp z => Sys2Proof.Machine.execAdcZp z s
  | .adcImm v => Sys2Proof.Machine.execAdcImm v s
  | .adcAbs a => Sys2Proof.Machine.execAdcAbs a s
  | .adcIndY z => Sys2Proof.Machine.execAdcIndY z s
  | .adcIzp z => Sys2Proof.Machine.execAdcIzp z s
  | .adcZpX z => Sys2Proof.Machine.execAdcZpX z s
  | .adcAbsY a => Sys2Proof.Machine.execAdcAbsY a s
  | .adcAbsX a => Sys2Proof.Machine.execAdcAbsX a s
  | .sbcIndX z => Sys2Proof.Machine.execSbcIndX z s
  | .sbcZp z => Sys2Proof.Machine.execSbcZp z s
  | .sbcImm v => Sys2Proof.Machine.execSbcImm v s
  | .sbcAbs a => Sys2Proof.Machine.execSbcAbs a s
  | .sbcIndY z => Sys2Proof.Machine.execSbcIndY z s
  | .sbcIzp z => Sys2Proof.Machine.execSbcIzp z s
  | .sbcZpX z => Sys2Proof.Machine.execSbcZpX z s
  | .sbcAbsY a => Sys2Proof.Machine.execSbcAbsY a s
  | .sbcAbsX a => Sys2Proof.Machine.execSbcAbsX a s
  | .incAcc => Sys2Proof.Machine.execIncAcc s
  | .incZp z => Sys2Proof.Machine.execIncZp z s
  | .incAbs a => Sys2Proof.Machine.execIncAbs a s
  | .incZpX z => Sys2Proof.Machine.execIncZpX z s
  | .incAbsX a => Sys2Proof.Machine.execIncAbsX a s
  | .decAcc => Sys2Proof.Machine.execDecAcc s
  | .decZp z => Sys2Proof.Machine.execDecZp z s
  | .decAbs a => Sys2Proof.Machine.execDecAbs a s
  | .decZpX z => Sys2Proof.Machine.execDecZpX z s
  | .decAbsX a => Sys2Proof.Machine.execDecAbsX a s
  | .inx => Sys2Proof.Machine.execInx s
  | .iny => Sys2Proof.Machine.execIny s
  | .dex => Sys2Proof.Machine.execDex s
  | .dey => Sys2Proof.Machine.execDey s
  | .andIndX z => Sys2Proof.Machine.execAndIndX z s
  | .andZp z => Sys2Proof.Machine.execAndZp z s
  | .andImm v => Sys2Proof.Machine.execAndImm v s
  | .andAbs a => Sys2Proof.Machine.execAndAbs a s
  | .andIndY z => Sys2Proof.Machine.execAndIndY z s
  | .andIzp z => Sys2Proof.Machine.execAndIzp z s
  | .andZpX z => Sys2Proof.Machine.execAndZpX z s
  | .andAbsY a => Sys2Proof.Machine.execAndAbsY a s
  | .andAbsX a => Sys2Proof.Machine.execAndAbsX a s
  | .oraIndX z => Sys2Proof.Machine.execOraIndX z s
  | .oraZp z => Sys2Proof.Machine.execOraZp z s
  | .oraImm v => Sys2Proof.Machine.execOraImm v s
  | .oraAbs a => Sys2Proof.Machine.execOraAbs a s
  | .oraIndY z => Sys2Proof.Machine.execOraIndY z s
  | .oraIzp z => Sys2Proof.Machine.execOraIzp z s
  | .oraZpX z => Sys2Proof.Machine.execOraZpX z s
  | .oraAbsY a => Sys2Proof.Machine.execOraAbsY a s
  | .oraAbsX a => Sys2Proof.Machine.execOraAbsX a s
  | .eorIndX z => Sys2Proof.Machine.execEorIndX z s
  | .eorZp z => Sys2Proof.Machine.execEorZp z s
  | .eorImm v => Sys2Proof.Machine.execEorImm v s
  | .eorAbs a => Sys2Proof.Machine.execEorAbs a s
  | .eorIndY z => Sys2Proof.Machine.execEorIndY z s
  | .eorIzp z => Sys2Proof.Machine.execEorIzp z s
  | .eorZpX z => Sys2Proof.Machine.execEorZpX z s
  | .eorAbsY a => Sys2Proof.Machine.execEorAbsY a s
  | .eorAbsX a => Sys2Proof.Machine.execEorAbsX a s
  | .aslZp z => Sys2Proof.Machine.execAslZp z s
  | .aslAcc => Sys2Proof.Machine.execAslAcc s
  | .aslAbs a => Sys2Proof.Machine.execAslAbs a s
  | .aslZpX z => Sys2Proof.Machine.execAslZpX z s
  | .aslAbsX a => Sys2Proof.Machine.execAslAbsX a s
  | .lsrZp z => Sys2Proof.Machine.execLsrZp z s
  | .lsrAcc => Sys2Proof.Machine.execLsrAcc s
  | .lsrAbs a => Sys2Proof.Machine.execLsrAbs a s
  | .lsrZpX z => Sys2Proof.Machine.execLsrZpX z s
  | .lsrAbsX a => Sys2Proof.Machine.execLsrAbsX a s
  | .rolZp z => Sys2Proof.Machine.execRolZp z s
  | .rolAcc => Sys2Proof.Machine.execRolAcc s
  | .rolAbs a => Sys2Proof.Machine.execRolAbs a s
  | .rolZpX z => Sys2Proof.Machine.execRolZpX z s
  | .rolAbsX a => Sys2Proof.Machine.execRolAbsX a s
  | .rorZp z => Sys2Proof.Machine.execRorZp z s
  | .rorAcc => Sys2Proof.Machine.execRorAcc s
  | .rorAbs a => Sys2Proof.Machine.execRorAbs a s
  | .rorZpX z => Sys2Proof.Machine.execRorZpX z s
  | .rorAbsX a => Sys2Proof.Machine.execRorAbsX a s
  | .cmpIndX z => Sys2Proof.Machine.execCmpIndX z s
  | .cmpZp z => Sys2Proof.Machine.execCmpZp z s
  | .cmpImm v => Sys2Proof.Machine.execCmpImm v s
  | .cmpAbs a => Sys2Proof.Machine.execCmpAbs a s
  | .cmpIndY z => Sys2Proof.Machine.execCmpIndY z s
  | .cmpIzp z => Sys2Proof.Machine.execCmpIzp z s
  | .cmpZpX z => Sys2Proof.Machine.execCmpZpX z s
  | .cmpAbsY a => Sys2Proof.Machine.execCmpAbsY a s
  | .cmpAbsX a => Sys2Proof.Machine.execCmpAbsX a s
  | .cpxImm v => Sys2Proof.Machine.execCpxImm v s
  | .cpxZp z => Sys2Proof.Machine.execCpxZp z s
  | .cpxAbs a => Sys2Proof.Machine.execCpxAbs a s
  | .cpyImm v => Sys2Proof.Machine.execCpyImm v s
  | .cpyZp z => Sys2Proof.Machine.execCpyZp z s
  | .cpyAbs a => Sys2Proof.Machine.execCpyAbs a s
  | .bcc r => Sys2Proof.Machine.execBcc r s
  | .bcs r => Sys2Proof.Machine.execBcs r s
  | .beq r => Sys2Proof.Machine.execBeq r s
  | .bne r => Sys2Proof.Machine.execBne r s
  | .bmi r => Sys2Proof.Machine.execBmi r s
  | .bpl r => Sys2Proof.Machine.execBpl r s
  | .bvc r => Sys2Proof.Machine.execBvc r s
  | .bvs r => Sys2Proof.Machine.execBvs r s
  | .bra r => Sys2Proof.Machine.execBra r s
  | .bbr0 z r => Sys2Proof.Machine.execBbr0 z r s
  | .bbr1 z r => Sys2Proof.Machine.execBbr1 z r s
  | .bbr2 z r => Sys2Proof.Machine.execBbr2 z r s
  | .bbr3 z r => Sys2Proof.Machine.execBbr3 z r s
  | .bbr4 z r => Sys2Proof.Machine.execBbr4 z r s
  | .bbr5 z r => Sys2Proof.Machine.execBbr5 z r s
  | .bbr6 z r => Sys2Proof.Machine.execBbr6 z r s
  | .bbr7 z r => Sys2Proof.Machine.execBbr7 z r s
  | .bbs0 z r => Sys2Proof.Machine.execBbs0 z r s
  | .bbs1 z r => Sys2Proof.Machine.execBbs1 z r s
  | .bbs2 z r => Sys2Proof.Machine.execBbs2 z r s
  | .bbs3 z r => Sys2Proof.Machine.execBbs3 z r s
  | .bbs4 z r => Sys2Proof.Machine.execBbs4 z r s
  | .bbs5 z r => Sys2Proof.Machine.execBbs5 z r s
  | .bbs6 z r => Sys2Proof.Machine.execBbs6 z r s
  | .bbs7 z r => Sys2Proof.Machine.execBbs7 z r s
  | .jmpAbs a => Sys2Proof.Machine.execJmpAbs a s
  | .jmpInd a => Sys2Proof.Machine.execJmpInd a s
  | .jmpAix a => Sys2Proof.Machine.execJmpAix a s
  | .jsr a => Sys2Proof.Machine.execJsr a s
  | .rti => Sys2Proof.Machine.execRti s
  | .brk => Sys2Proof.Machine.execBrk s
  | .rts => Sys2Proof.Machine.execRts s
  | .pha => Sys2Proof.Machine.execPha s
  | .php => Sys2Proof.Machine.execPhp s
  | .phx => Sys2Proof.Machine.execPhx s
  | .phy => Sys2Proof.Machine.execPhy s
  | .pla => Sys2Proof.Machine.execPla s
  | .plx => Sys2Proof.Machine.execPlx s
  | .plp => Sys2Proof.Machine.execPlp s
  | .ply => Sys2Proof.Machine.execPly s
  | .clc => Sys2Proof.Machine.execClc s
  | .sec => Sys2Proof.Machine.execSec s
  | .cli => Sys2Proof.Machine.execCli s
  | .sei => Sys2Proof.Machine.execSei s
  | .cld => Sys2Proof.Machine.execCld s
  | .sed => Sys2Proof.Machine.execSed s
  | .clv => Sys2Proof.Machine.execClv s
  | .tax => Sys2Proof.Machine.execTax s
  | .tay => Sys2Proof.Machine.execTay s
  | .txa => Sys2Proof.Machine.execTxa s
  | .tya => Sys2Proof.Machine.execTya s
  | .tsx => Sys2Proof.Machine.execTsx s
  | .txs => Sys2Proof.Machine.execTxs s
  | .bitZp z => Sys2Proof.Machine.execBitZp z s
  | .bitAbs a => Sys2Proof.Machine.execBitAbs a s
  | .bitZpX z => Sys2Proof.Machine.execBitZpX z s
  | .bitAbsX a => Sys2Proof.Machine.execBitAbsX a s
  | .bitImm v => Sys2Proof.Machine.execBitImm v s
  | .trbZp z => Sys2Proof.Machine.execTrbZp z s
  | .trbAbs a => Sys2Proof.Machine.execTrbAbs a s
  | .tsbZp z => Sys2Proof.Machine.execTsbZp z s
  | .tsbAbs a => Sys2Proof.Machine.execTsbAbs a s
  | .rmb0 z => Sys2Proof.Machine.execRmb0 z s
  | .rmb1 z => Sys2Proof.Machine.execRmb1 z s
  | .rmb2 z => Sys2Proof.Machine.execRmb2 z s
  | .rmb3 z => Sys2Proof.Machine.execRmb3 z s
  | .rmb4 z => Sys2Proof.Machine.execRmb4 z s
  | .rmb5 z => Sys2Proof.Machine.execRmb5 z s
  | .rmb6 z => Sys2Proof.Machine.execRmb6 z s
  | .rmb7 z => Sys2Proof.Machine.execRmb7 z s
  | .smb0 z => Sys2Proof.Machine.execSmb0 z s
  | .smb1 z => Sys2Proof.Machine.execSmb1 z s
  | .smb2 z => Sys2Proof.Machine.execSmb2 z s
  | .smb3 z => Sys2Proof.Machine.execSmb3 z s
  | .smb4 z => Sys2Proof.Machine.execSmb4 z s
  | .smb5 z => Sys2Proof.Machine.execSmb5 z s
  | .smb6 z => Sys2Proof.Machine.execSmb6 z s
  | .smb7 z => Sys2Proof.Machine.execSmb7 z s
  | .nop => Sys2Proof.Machine.execNop s
  | .wai => Sys2Proof.Machine.execWai s
  | .unmapped02 => Sys2Proof.Machine.execUnmapped02 s
  | .unmapped03 => Sys2Proof.Machine.execUnmapped03 s
  | .unmapped0B => Sys2Proof.Machine.execUnmapped0B s
  | .unmapped13 => Sys2Proof.Machine.execUnmapped13 s
  | .unmapped1B => Sys2Proof.Machine.execUnmapped1B s
  | .unmapped22 => Sys2Proof.Machine.execUnmapped22 s
  | .unmapped23 => Sys2Proof.Machine.execUnmapped23 s
  | .unmapped2B => Sys2Proof.Machine.execUnmapped2B s
  | .unmapped33 => Sys2Proof.Machine.execUnmapped33 s
  | .unmapped3B => Sys2Proof.Machine.execUnmapped3B s
  | .unmapped42 => Sys2Proof.Machine.execUnmapped42 s
  | .unmapped43 => Sys2Proof.Machine.execUnmapped43 s
  | .unmapped44 => Sys2Proof.Machine.execUnmapped44 s
  | .unmapped4B => Sys2Proof.Machine.execUnmapped4B s
  | .unmapped53 => Sys2Proof.Machine.execUnmapped53 s
  | .unmapped54 => Sys2Proof.Machine.execUnmapped54 s
  | .unmapped5B => Sys2Proof.Machine.execUnmapped5B s
  | .unmapped5C => Sys2Proof.Machine.execUnmapped5C s
  | .unmapped62 => Sys2Proof.Machine.execUnmapped62 s
  | .unmapped63 => Sys2Proof.Machine.execUnmapped63 s
  | .unmapped6B => Sys2Proof.Machine.execUnmapped6B s
  | .unmapped73 => Sys2Proof.Machine.execUnmapped73 s
  | .unmapped7B => Sys2Proof.Machine.execUnmapped7B s
  | .unmapped82 => Sys2Proof.Machine.execUnmapped82 s
  | .unmapped83 => Sys2Proof.Machine.execUnmapped83 s
  | .unmapped8B => Sys2Proof.Machine.execUnmapped8B s
  | .unmapped93 => Sys2Proof.Machine.execUnmapped93 s
  | .unmapped9B => Sys2Proof.Machine.execUnmapped9B s
  | .unmappedA3 => Sys2Proof.Machine.execUnmappedA3 s
  | .unmappedAB => Sys2Proof.Machine.execUnmappedAB s
  | .unmappedB3 => Sys2Proof.Machine.execUnmappedB3 s
  | .unmappedBB => Sys2Proof.Machine.execUnmappedBB s
  | .unmappedC2 => Sys2Proof.Machine.execUnmappedC2 s
  | .unmappedC3 => Sys2Proof.Machine.execUnmappedC3 s
  | .unmappedD3 => Sys2Proof.Machine.execUnmappedD3 s
  | .unmappedD4 => Sys2Proof.Machine.execUnmappedD4 s
  | .unmappedDB => Sys2Proof.Machine.execUnmappedDB s
  | .unmappedDC => Sys2Proof.Machine.execUnmappedDC s
  | .unmappedE2 => Sys2Proof.Machine.execUnmappedE2 s
  | .unmappedE3 => Sys2Proof.Machine.execUnmappedE3 s
  | .unmappedEB => Sys2Proof.Machine.execUnmappedEB s
  | .unmappedF3 => Sys2Proof.Machine.execUnmappedF3 s
  | .unmappedF4 => Sys2Proof.Machine.execUnmappedF4 s
  | .unmappedFB => Sys2Proof.Machine.execUnmappedFB s
  | .unmappedFC => Sys2Proof.Machine.execUnmappedFC s

end Sys2Proof.Machine
end

