-- ==== Sys2Proof/Machine/Renderer.lean ====
section
/-! DEFINITION. The scanline renderer (`51_renderer.md`): the video step, line composition, sprites with their budget
and collisions, layers, colours, and the interrupt status bits. It reads `vram` and never writes it. -/

namespace Sys2Proof.Machine

open Sys2Proof.Config

/-! ### Composer fields (`50_video_registers.md` R390 to R397) -/

/-- The output mode, bits 1:0 of `composer[0]`: 0 off, 1 VGA, 2 NTSC, 3 RGB at the NTSC rate. -/
def Video.outMode (v : Video) : Nat := field v.composer.video 1 0

/-- Bit 1 of the output mode selects the NTSC numbers (R431, R433). -/
def Video.ntsc (v : Video) : Bool := testBit v.composer.video 1

/-- `chroma-disable` (R390, R471). -/
def Video.chromaDisable (v : Video) : Bool := testBit v.composer.video 2

/-- Whether layer 0 or 1 is enabled (R439). -/
def Video.layerEnabled (v : Video) (one : Bool) : Bool := testBit v.composer.video (if one then 5 else 4)

/-- Whether the sprites are enabled (R439). -/
def Video.spritesEnabled (v : Video) : Bool := testBit v.composer.video 6

/-! ### Palette and colour (R470 to R473) -/

/-- Palette entry `i` as the channels (r, g, b), 4 bits each (`50_video_registers.md` R410). -/
def Video.palette (v : Video) (i : Byte) : Nat × Nat × Nat :=
  let lo := v.vram.read (0x1FA00 + 2 * i.toNat)
  let hi := v.vram.read (0x1FA00 + 2 * i.toNat + 1)
  (field hi 3 0, field lo 7 4, field lo 3 0)

/-- Whether a pixel lies in the overscan border of the NTSC mode (R473). The fractions are compared as real numbers.
DESIGN CHOICE (log 31): R473 writes 640 and 480; the thresholds follow `SCREEN_WIDTH` and `SCREEN_HEIGHT`. -/
def overscan (cfg : Params) (x eff : Nat) : Bool :=
  let d := cfg.overscanDenominator
  decide (d * x < cfg.screenWidth * cfg.overscanX) || decide (cfg.screenWidth * (d - cfg.overscanX) < d * x) ||
  decide (d * eff < cfg.screenHeight * cfg.overscanY) || decide (cfg.screenHeight * (d - cfg.overscanY) < d * eff)

/-- Three channels averaged, rounded down, when `chroma-disable` is set (R471). -/
def chroma (disable : Bool) (c : Nat × Nat × Nat) : Nat × Nat × Nat :=
  if disable then
    let m := (c.1 + c.2.1 + c.2.2) / 3
    (m, m, m)
  else c

/-- `Colour(i, x, eff)` (R470): the palette entry with each nibble in both halves of its byte, then R471, then R473. -/
def Video.colour (v : Video) (cfg : Params) (i : Byte) (x eff : Nat) : Rgb :=
  let p := v.palette i
  let c := chroma v.chromaDisable (p.1 * 17, p.2.1 * 17, p.2.2 * 17)
  let q := if v.outMode = 2 && overscan cfg x eff then 4 else 1
  { r := BitVec.ofNat 8 (c.1 / q), g := BitVec.ofNat 8 (c.2.1 / q), b := BitVec.ofNat 8 (c.2.2 / q) }

/-- The solid blue of the switched-off output (R472). -/
def Rgb.blue : Rgb := { r := 0, g := 0, b := 255 }

/-! ### Sprites (`50_video_registers.md` R415, R416; R443 to R447) -/

/-- The derived properties of a sprite (R416). -/
structure Sprite where
  addr   : Nat
  mode8  : Bool
  width  : Nat
  height : Nat
  x      : Int
  y      : Int
  z      : Nat
  mask   : Byte
  vflip  : Bool
  hflip  : Bool
  paloff : Nat
deriving DecidableEq, Repr

/-- Attribute byte `k` of sprite `s` (R415). -/
def Video.spriteByte (v : Video) (s k : Nat) : Byte := v.vram.read (0x1FC00 + 8 * s + k)

/-- A ten-bit coordinate with the negative-wrap fix-up at `$400 - size` (R416). -/
def spriteCoord (lo hi : Byte) (size : Nat) : Int :=
  let c := lo.toNat + 256 * field hi 1 0
  if c ≥ 0x400 - size then (c : Int) - 0x400 else c

/-- Sprite `s` (R416). -/
def Video.sprite (v : Video) (s : Nat) : Sprite :=
  let a := v.spriteByte s
  let width := 8 * 2 ^ field (a 7) 5 4
  let height := 8 * 2 ^ field (a 7) 7 6
  { addr := (a 0).toNat * 32 + field (a 1) 3 0 * 8192
    mode8 := testBit (a 1) 7
    width := width
    height := height
    x := spriteCoord (a 2) (a 3) width
    y := spriteCoord (a 4) (a 5) height
    z := field (a 6) 3 2
    mask := a 6 &&& 0xF0#8
    vflip := testBit (a 6) 1
    hflip := testBit (a 6) 0
    paloff := field (a 7) 3 0 }

/-- A byte the renderer reads; addresses wrap modulo 2^17 (R444, R451). -/
def Video.fetch (v : Video) (a : Nat) : Byte := v.vram.read (a % 2 ^ 17)

/-- `SpritePixel(s, px, row)` (R444). -/
def Video.spritePixel (v : Video) (s : Sprite) (px row : Nat) : Nat :=
  if s.mode8 then (v.fetch (s.addr + row * s.width + px)).toNat
  else
    let b := v.fetch (s.addr + row * (s.width / 2) + px / 2)
    if px % 2 = 0 then field b 7 4 else field b 3 0

/-- `bpp(s)` (R443). -/
def Sprite.bpp (s : Sprite) : Nat := if s.mode8 then 8 else 4

/-- One column of the sprite scratch arrays: colour, depth, collision masks seen (R443). -/
structure SpriteCell where
  col  : Byte
  z    : Nat
  mask : Byte
deriving DecidableEq, Repr

/-- A cleared column. -/
def SpriteCell.clear : SpriteCell := ⟨0, 0, 0⟩

/-- The running state of `RenderSpriteLine` (R443): the budget left, whether a charge could not be paid, the scratch
arrays and the collision latch. -/
structure SpriteLine where
  budget     : Nat
  exhausted  : Bool
  cells      : List SpriteCell
  collisions : Byte
deriving DecidableEq, Repr

/-- `Charge(n)` of R443: a charge that cannot be paid in full ends the line. -/
def SpriteLine.charge (n : Nat) (l : SpriteLine) : SpriteLine :=
  if l.exhausted then l
  else if l.budget < n then { l with exhausted := true }
  else { l with budget := l.budget - n }

/-- The palette offset moves colours 1 to 15 only (R443, R444, R457). -/
def paletteOffset (c offset : Nat) : Byte :=
  BitVec.ofNat 8 (if 0 < c ∧ c < 16 then c + 16 * offset else c)

/-- A non-transparent pixel of a sprite lands on a column (R443, R445, R447). -/
def SpriteLine.plot (s : Sprite) (col c : Nat) (l : SpriteLine) : SpriteLine :=
  let cell := l.cells.getD col SpriteCell.clear
  let drawn := decide (cell.z < s.z)
  { l with
    collisions := l.collisions ||| (cell.mask &&& s.mask)
    cells := l.cells.set col
      { col := if drawn then paletteOffset c s.paloff else cell.col
        z := if drawn then s.z else cell.z
        mask := cell.mask ||| s.mask } }

/-- Pixel `sx` of a sprite's row (the inner loop of R443). DESIGN CHOICE (log 31): R443 writes 640 for the end of the
columns; it follows `SCREEN_WIDTH`. -/
def Video.spriteColumn (v : Video) (cfg : Params) (s : Sprite) (row sx : Nat) (l : SpriteLine) : SpriteLine :=
  let colX := s.x + sx
  if colX < 0 ∨ colX ≥ cfg.screenWidth then l
  else
    let l := if sx * s.bpp % 32 = 0 then l.charge 1 else l
    let l := l.charge 1
    if l.exhausted then l
    else
      let px := if s.hflip then s.width - 1 - sx else sx
      let c := v.spritePixel s px row
      if c = 0 then l else l.plot s colX.toNat c

/-- One sprite of the line (the outer loop of R443). -/
def Video.spriteRow (v : Video) (cfg : Params) (y : Nat) (l : SpriteLine) (i : Nat) : SpriteLine :=
  let l := l.charge cfg.spriteLookupCost
  let s := v.sprite i
  if l.exhausted ∨ s.z = 0 ∨ (y : Int) < s.y ∨ (y : Int) ≥ s.y + s.height then l
  else
    let row := ((y : Int) - s.y).toNat
    let row := if s.vflip then s.height - 1 - row else row
    (List.range s.width).foldl (fun l sx => v.spriteColumn cfg s row sx l) l

/-- `RenderSpriteLine(y)` (R443): from cleared scratch arrays and a full budget, sprites 0 to 127. DESIGN CHOICE (log 31):
R443 writes 640 for the length of the arrays; it follows `SCREEN_WIDTH`. -/
def Video.renderSpriteLine (v : Video) (cfg : Params) (y : Nat) : SpriteLine :=
  (List.range 128).foldl (v.spriteRow cfg y)
    { budget := cfg.spriteBudget
      exhausted := false
      cells := List.replicate cfg.screenWidth SpriteCell.clear
      collisions := v.spriteCollisions }

/-! ### Layers (`50_video_registers.md` R400 to R407, R425; R450 to R457) -/

/-- Bits per pixel, `1 << cd` (R407). -/
def Layer.bpp (l : Layer) : Nat := 2 ^ field l.config 1 0

/-- The layer is a bitmap (R407). -/
def Layer.bitmap (l : Layer) : Bool := testBit l.config 2

/-- The layer is text: 1 bpp and not a bitmap (R407). -/
def Layer.text (l : Layer) : Bool := !l.bitmap && decide (field l.config 1 0 = 0)

/-- T256C (R400). -/
def Layer.text256 (l : Layer) : Bool := testBit l.config 3

/-- The address of the tile map (R401). -/
def Layer.mapAddr (l : Layer) : Nat := l.mapBase.toNat * 512

/-- The address of the tile data (R402). -/
def Layer.tileAddr (l : Layer) : Nat := field l.tileBase 7 2 * 2048

/-- Tile width in pixels, 8 or 16 (R402, R407). -/
def Layer.tileW (l : Layer) : Nat := 8 * 2 ^ field l.tileBase 0 0

/-- Tile height in pixels, 8 or 16 (R402, R407). -/
def Layer.tileH (l : Layer) : Nat := 8 * 2 ^ field l.tileBase 1 1

/-- Map width in tiles (R400). -/
def Layer.mapW (l : Layer) : Nat := 32 * 2 ^ field l.config 5 4

/-- Map height in tiles (R400). -/
def Layer.mapH (l : Layer) : Nat := 32 * 2 ^ field l.config 7 6

/-- The 12-bit horizontal scroll; 0 in bitmap mode (R404, R407). -/
def Layer.hscroll (l : Layer) : Nat :=
  if l.bitmap then 0 else field l.hscrollH 3 0 * 256 + l.hscrollL.toNat

/-- The 12-bit vertical scroll; 0 in bitmap mode (R406, R407). -/
def Layer.vscroll (l : Layer) : Nat :=
  if l.bitmap then 0 else field l.vscrollH 3 0 * 256 + l.vscrollL.toNat

/-- Bitmap width, 320 or 640 (R402). -/
def Layer.bitmapW (l : Layer) : Nat := if testBit l.tileBase 0 then 640 else 320

/-- The pixel at bit offset `o` of a byte, the leftmost in the most significant bits: bits `[7 - o : 8 - bpp - o]` (R455). -/
def pixelBits (b : Byte) (bpp o : Nat) : Nat := b.toNat / 2 ^ (8 - bpp - o) % 2 ^ bpp

/-- Text mode (R454): character `b0` with colours `b1`, at position (`tx`, `ty`) of the tile. -/
def Video.textPixel (v : Video) (l : Layer) (b0 b1 : Byte) (tx ty : Nat) : Byte :=
  let rowBytes := l.tileW / 8
  let b := v.fetch (l.tileAddr + b0.toNat * rowBytes * l.tileH + ty * rowBytes + tx / 8)
  let fg := if l.text256 then b1.toNat else field b1 3 0
  let bg := if l.text256 then 0 else field b1 7 4
  BitVec.ofNat 8 (if testBit b (7 - tx % 8) then fg else bg)

/-- Tile mode (R455, R457). -/
def Video.tilePixel (v : Video) (l : Layer) (b0 b1 : Byte) (tx ty : Nat) : Byte :=
  let t := b0.toNat + 256 * field b1 1 0
  let tx := if testBit b1 2 then l.tileW - 1 - tx else tx
  let ty := if testBit b1 3 then l.tileH - 1 - ty else ty
  let b := v.fetch (l.tileAddr + t * (l.tileW * l.tileH * l.bpp / 8) + ty * (l.tileW * l.bpp / 8) + tx * l.bpp / 8)
  paletteOffset (pixelBits b l.bpp (tx * l.bpp % 8)) (field b1 7 4)

/-- Bitmap mode (R456, R457). DESIGN CHOICE (log 31): the rows wrap at the 480 that R456 writes, whatever
`SCREEN_HEIGHT` is. -/
def Video.bitmapPixel (v : Video) (l : Layer) (xSrc ySrc : Nat) : Byte :=
  let bx := xSrc % l.bitmapW
  let by' := ySrc % 480
  let b := v.fetch (l.tileAddr + by' * (l.bitmapW * l.bpp / 8) + bx * l.bpp / 8)
  paletteOffset (pixelBits b l.bpp (bx * l.bpp % 8)) (field l.hscrollH 3 0)

/-- The reference function of R452 to R457. -/
def Video.layerReference (v : Video) (l : Layer) (xSrc ySrc : Nat) : Byte :=
  if l.bitmap then v.bitmapPixel l xSrc ySrc
  else
    let xx := (xSrc + l.hscroll) % (l.tileW * l.mapW)
    let yy := (ySrc + l.vscroll) % (l.tileH * l.mapH)
    let entry := l.mapAddr + 2 * (yy / l.tileH * l.mapW + xx / l.tileW)
    let b0 := v.fetch entry
    let b1 := v.fetch (entry + 1)
    if l.text then v.textPixel l b0 b1 (xx % l.tileW) (yy % l.tileH)
    else v.tilePixel l b0 b1 (xx % l.tileW) (yy % l.tileH)

/-- The registers of a layer as a list (R450: the function is one of `layer[l][0..6]` and `vram`). -/
def Layer.regs (l : Layer) : List Byte :=
  [l.config, l.mapBase, l.tileBase, l.hscrollL, l.hscrollH, l.vscrollL, l.vscrollH]

/-- `LayerPixel(l, x_src, y_src)` (R450). -/
def Video.layerPixel (v : Video) (cfg : Params) (one : Bool) (xSrc ySrc : Nat) : Byte :=
  match cfg.layerPixelFn with
  | .reference => v.layerReference (v.layer one) xSrc ySrc
  | .other => layerPixelValue (v.layer one).regs v.vram xSrc ySrc

/-! ### Line composition (R436 to R441) -/

/-- `Mix(s, z, l0, l1)` (R440): colour 0 is transparent in every source. -/
def mix (s : Byte) (z : Nat) (l0 l1 : Byte) : Byte :=
  if z = 3 then (if s ≠ 0 then s else if l1 ≠ 0 then l1 else l0)
  else if z = 2 then (if l1 ≠ 0 then l1 else if s ≠ 0 then s else l0)
  else if z = 1 then (if l1 ≠ 0 then l1 else if l0 ≠ 0 then l0 else s)
  else (if l1 ≠ 0 then l1 else l0)

/-- The first line of the active area (`50_video_registers.md` R396). -/
def Video.vstart (v : Video) : Nat := v.composer.vstart.toNat * 2

/-- The first line after the active area (`50_video_registers.md` R397). -/
def Video.vstop (v : Video) : Nat := v.composer.vstop.toNat * 2

/-- `line_is_border` (R436). -/
def Video.lineIsBorder (v : Video) (eff : Nat) : Bool := decide (eff < v.vstart) || decide (v.vstop ≤ eff)

/-- `y_src` (R436). -/
def Video.ySrc (v : Video) (eff : Nat) : Nat := v.composer.vscale.toNat * (eff - v.vstart) / 128

/-- The colour index of a column inside the active area (steps 2 and 3 of R437). -/
def Video.activeIndex (v : Video) (cfg : Params) (cells : List SpriteCell) (hstart y x : Nat) : Byte :=
  let xSrc := v.composer.hscale.toNat * (x - hstart) / 128
  let cell := if v.spritesEnabled then cells.getD xSrc SpriteCell.clear else SpriteCell.clear
  let l0 := if v.layerEnabled false then v.layerPixel cfg false xSrc y else 0
  let l1 := if v.layerEnabled true then v.layerPixel cfg true xSrc y else 0
  mix cell.col cell.z l0 l1

/-- The colour index of a column: the border outside the horizontal active area (step 4 of R437, R441). DESIGN CHOICE
(log 31): R437 and R394, R395 of `50_video_registers.md` write 640 for the cut; it follows `SCREEN_WIDTH`. -/
def Video.columnIndex (v : Video) (cfg : Params) (cells : List SpriteCell) (y x : Nat) : Byte :=
  let hstart := min (v.composer.hstart.toNat * 4) cfg.screenWidth
  let hstop := min (v.composer.hstop.toNat * 4) cfg.screenWidth
  if x < hstart ∨ hstop ≤ x then v.composer.border else v.activeIndex cfg cells hstart y x

/-- Lists row `eff` of the frame buffer, in its place. -/
def insertRow (fb : List (Nat × List Rgb)) (eff : Nat) (row : List Rgb) : List (Nat × List Rgb) :=
  match fb with
  | [] => [(eff, row)]
  | (e, r) :: fb =>
    if eff < e then (eff, row) :: (e, r) :: fb
    else if eff = e then (eff, row) :: fb
    else (e, r) :: insertRow fb eff row

/-- Writes row `eff` of the frame buffer. A row that reads as an unlisted one is unlisted (log 7). -/
def setRow (fb : List (Nat × List Rgb)) (eff : Nat) (row : List Rgb) : List (Nat × List Rgb) :=
  if row.all (fun p => decide (p = Rgb.unlisted)) then fb.filter (fun e => e.1 != eff) else insertRow fb eff row

/-- What the rows hold at a row and column. -/
def fbRead (fb : List (Nat × List Rgb)) (row col : Nat) : Rgb :=
  match fb.find? (fun e => e.1 == row) with
  | some e => e.2.getD col Rgb.unlisted
  | none => Rgb.unlisted

/-- `fb[row][col]` (`10_state.md` R70, R474): every row and column of the screen has an entry, and nothing else has. -/
def Video.pixel (v : Video) (cfg : Params) (row col : Nat) : Option Rgb :=
  if row < cfg.screenHeight ∧ col < cfg.screenWidth then some (fbRead v.fb row col) else none

/-- The sprite line that `ComposeLine` renders, if it renders one (step 1 of R437). -/
def Video.spriteLineOf (v : Video) (cfg : Params) (eff : Nat) : Option SpriteLine :=
  if v.outMode = 0 ∨ v.lineIsBorder eff ∨ ¬v.spritesEnabled then none
  else some (v.renderSpriteLine cfg (v.ySrc eff))

/-- The pixels of a line (R437, R472). DESIGN CHOICE (log 31): R436, R437 and R472 write 640 columns; they follow
`SCREEN_WIDTH`. -/
def Video.linePixels (v : Video) (cfg : Params) (eff : Nat) : List Rgb :=
  let cells := ((v.spriteLineOf cfg eff).map SpriteLine.cells).getD []
  (List.range cfg.screenWidth).map fun x =>
    if v.outMode = 0 then Rgb.blue
    else if v.lineIsBorder eff then v.colour cfg v.composer.border x eff
    else v.colour cfg (v.columnIndex cfg cells (v.ySrc eff) x) x eff

/-- `ComposeLine(eff)` (R437): the row of the frame buffer, and the collisions its sprites add. -/
def Video.composeLine (cfg : Params) (eff : Nat) (v : Video) : Video :=
  { v with
    fb := setRow v.fb eff (v.linePixels cfg eff)
    spriteCollisions := ((v.spriteLineOf cfg eff).map SpriteLine.collisions).getD v.spriteCollisions }

/-! ### Lines, frames, interrupt status (R430 to R434, R480 to R483) -/

/-- The effective line (R433), which may be negative. -/
def Video.effLine (v : Video) (cfg : Params) : Int :=
  (v.scanY : Int) - (if v.ntsc then cfg.frontPorchNtsc else cfg.frontPorchVga)

/-- `EndOfVisible()` (R481). -/
def Video.endOfVisible (v : Video) : Video :=
  { v with
    isr := if v.ien.getLsbD 2 ∧ v.spriteCollisions ≠ 0
      then (v.isr &&& 0x0F#8) ||| 0x04#8 ||| (v.spriteCollisions &&& 0xF0#8) else v.isr
    spriteCollisions := 0x00#8 }

/-- The end of a frame (R482): the counter wraps, the frame is counted, and VSYNC is set if it is enabled. -/
def Video.endOfFrame (cfg : Params) (v : Video) : Video :=
  if v.scanY = cfg.scanHeight then
    { v with
      scanY := 0
      frameCount := v.frameCount + 1
      isr := if v.ien.getLsbD 0 then v.isr ||| 0x01#8 else v.isr }
  else v

/-- The raster-line compare (R483). -/
def Video.rasterCompare (cfg : Params) (eff : Int) (v : Video) : Video :=
  if eff = v.irqLine.toNat ∧ (!cfg.rasterNeedsEnable || v.ien.getLsbD 1) then { v with isr := v.isr ||| 0x02#8 } else v

/-- `LineStep()` (R434). -/
def Video.lineStep (cfg : Params) (v : Video) : Video :=
  let v := Video.endOfFrame cfg { v with scanY := v.scanY + 1 }
  let eff := v.effLine cfg
  let v := if 0 ≤ eff ∧ eff < cfg.screenHeight then v.composeLine cfg eff.toNat else v
  let v := if eff = cfg.screenHeight then v.endOfVisible else v
  v.rasterCompare cfg eff

/-- The pixel clock of the mode (R431), in the unit of the CPU clock. -/
def Video.pixelFreq (v : Video) (cfg : Params) : Nat := if v.ntsc then cfg.pixelFreqNtsc else cfg.pixelFreqVga

/-- `VideoStep()` (R432): `scan_x` moves by `pixelFreq / cpuFreq` and wraps when it is strictly above `SCAN_WIDTH`. -/
def Video.step (cfg : Params) (v : Video) : Video :=
  let x := v.scanXNum + v.pixelFreq cfg
  if cfg.scanWidth * cfg.cpuFreq < x then
    Video.lineStep cfg { v with scanXNum := x - cfg.scanWidth * cfg.cpuFreq }
  else { v with scanXNum := x }

/-- `n` video steps. -/
def Video.steps (cfg : Params) (n : Nat) (v : Video) : Video :=
  match n with
  | 0 => v
  | n + 1 => Video.steps cfg n (v.step cfg)

end Sys2Proof.Machine
end

