-- ==== Sys2Proof/WellFormed.lean ====
section
/-! DEFINITION. Well-formedness. An instruction has no ill-formed term: its operands are bytes and 16-bit values, and
`30_encoding.md` R142, R143 and R147 admit every value of every operand byte and every opcode, so there is nothing to
check. What can be ill-formed is a configuration (`00_scope.md` R10): `93_implementation_defined.md` U19 has a model
reject a bank count of 0, and `60_exceptions.md` R558 needs a wait step of at least one cycle. -/

namespace Sys2Proof.Config

/-- "any value ≥ 1 allowed" (R10; U19). -/
def Params.ramBanksOk (p : Params) : Bool := decide (1 ≤ p.numRamBanks)

/-- "number of 16 KiB ROM banks, 1 to 32" (R10; U19). -/
def Params.romBanksOk (p : Params) : Bool := decide (1 ≤ p.numRomBanks ∧ p.numRomBanks ≤ 32)

/-- "`WAIT_STEP_CYCLES` must therefore be at least 1" (`60_exceptions.md` R558). -/
def Params.waitStepOk (p : Params) : Bool := decide (1 ≤ p.waitStepCycles)

/-- `CPU_MHZ` is a divisor (R10: "divisor of the pixel-clock ratio"). -/
def Params.cpuFreqOk (p : Params) : Bool := decide (1 ≤ p.cpuFreq)

/-- A configuration the model accepts (log 20). -/
def Params.wellFormed (p : Params) : Bool :=
  p.ramBanksOk && p.romBanksOk && p.waitStepOk && p.cpuFreqOk

end Sys2Proof.Config
end

