-- ==== Sys2Proof/Machine/Schedule.lean ====
section
/-! DEFINITION. What drives the machine: the CPU step, the interrupt poll, the video steps, the host's actions, the
reference schedule and `exec(budget)` (`30_encoding.md` R140, R141; `60_exceptions.md` R546, R547, R556, R558, R560).
The meaning of an instruction is the argument `run`; `Machine/Step.lean` gives it `exec`. -/

namespace Sys2Proof.Machine

open Sys2Proof.Config

/-- Changes the state of a result that has one. -/
def mapNext (f : State → State) (r : Result) : Result :=
  match r with
  | .next s => .next (f s)
  | .fault e => .fault e
  | .refused e => .refused e

/-- The CPU fetches nothing: it waits (R141) or is stopped (`49_bit_system.md` R342). -/
def State.idle (s : State) : Bool := s.cpu.wait || s.cpu.stopped

/-- `step()` of the CPU: one instruction, whole (R140), or one wait step (R141). -/
def cpuStepWith (run : Instr → State → Result) (s : State) : Result :=
  if s.idle then .next (s.charge s.cfg.waitStepCycles)
  else
    let f := fetchInstr s
    run f.1 f.2

/-- One answered `nmi_req` event less (R542). -/
def State.answerNmi (s : State) : State := { s with pins := { s.pins with nmiRequests := s.pins.nmiRequests - 1 } }

/-- The poll of `cpu_tick()` (R546): NMI first, then an unmasked IRQ (R547). -/
def poll (s : State) : State :=
  if 0 < s.pins.nmiRequests then (takeTrap .nmi s).answerNmi
  else if irqLevel s && !s.cpu.p.i then takeTrap .irq s
  else s

/-- `n` calls of `VideoStep()` (`51_renderer.md` R432). -/
def videoSteps (n : Nat) (s : State) : State := { s with video := s.video.steps s.cfg n }

/-- `cpu_tick()` (R546). -/
def cpuTickWith (run : Instr → State → Result) (s : State) : Result := cpuStepWith run (poll s)

/-- The cycles charged between two states, modulo 2^32 (R560). -/
def cyclesBetween (s t : State) : Nat := (t.cpu.cycles - s.cpu.cycles).toNat

/-- `machine_tick()` (R560): `cpu_tick()`, then one video step per cycle it took. -/
def machineTickWith (run : Instr → State → Result) (s : State) : Result :=
  mapNext (fun t => videoSteps (cyclesBetween s t) t) (cpuTickWith run s)

/-- One action of the host between two steps (log 10). -/
def HostOp.apply (op : HostOp) (s : State) : State :=
  match op with
  | .setExtIrq level => { s with pins := { s.pins with extIrq := level } }
  | .setPcmFifoLow level => { s with pins := { s.pins with pcmFifoLow := level } }
  | .requestNmi => { s with pins := { s.pins with nmiRequests := s.pins.nmiRequests + 1 } }
  | .setRamBank v => Sys2Proof.Machine.setRamBank v s
  | .setRomBank v => Sys2Proof.Machine.setRomBank v s
  | .cpuReset => Sys2Proof.Machine.cpuReset s
  | .videoReset => { s with video := s.video.reset s.cfg }
  | .irq => takeTrap .irq s
  | .nmi => takeTrap .nmi s
  | .videoSteps n => Sys2Proof.Machine.videoSteps n s

/-- The host's actions of this step, taken before the poll: the next group of the script (log 10). -/
def hostPhase (s : State) : State :=
  match s.script with
  | [] => s
  | ops :: rest => ops.foldl (fun s op => op.apply s) { s with script := rest }

/-- One tick under the host's schedule (`HOST_SCHEDULE`, R560). -/
def tickWith (run : Instr → State → Result) (s : State) : Result :=
  match s.cfg.schedule with
  | .machineTick => machineTickWith run s
  | .cpuTick => cpuTickWith run s
  | .bareStep => cpuStepWith run s

/-- One step of the machine: the configuration is one a model accepts (log 20), the host acts, the schedule ticks. -/
def stepWith (run : Instr → State → Result) (s : State) : Result :=
  if s.cfg.wellFormed then tickWith run (hostPhase s) else .refused .invalidConfiguration

/-! ### `exec(budget)` (R558) -/

/-- `(GOAL - CYCLES) mod 2^32 is in 1 .. 2^31 - 1`. -/
def goalAhead (s : State) : Bool :=
  let d := (s.cpu.goal - s.cpu.cycles).toNat
  decide (1 ≤ d ∧ d < 2 ^ 31)

/-- The loop of `exec`, in at most `steps` CPU steps; a loop that needs more is refused by name (log 22). -/
def execLoopWith (run : Instr → State → Result) (steps : Nat) (s : State) : Result :=
  if goalAhead s then
    match steps with
    | 0 => .refused .budgetUnfinished
    | steps + 1 =>
      match cpuStepWith run s with
      | .next t => execLoopWith run steps t
      | .fault e => .fault e
      | .refused e => .refused e
  else .next s

/-- `GOAL <- (GOAL + budget) mod 2^32`. -/
def State.raiseGoal (budget : Nat) (s : State) : State := s.setGoal (s.cpu.goal + BitVec.ofNat 32 budget)

/-- `exec(budget)` (R558), in at most `steps` CPU steps, with a configuration the model accepts: R558 needs
`WAIT_STEP_CYCLES` at least 1 (log 20). DESIGN CHOICE (log 33): R558 has a budget below 2^31; a larger one is taken too and
added modulo 2^32, and the loop runs no step where that leaves the goal 2^31 or more ahead. -/
def execBudgetWithinWith (run : Instr → State → Result) (steps budget : Nat) (s : State) : Result :=
  if s.cfg.wellFormed then
    if s.cpu.wait then
      let t := s.charge budget
      .next (t.setGoal t.cpu.cycles)
    else execLoopWith run steps (s.raiseGoal budget)
  else .refused .invalidConfiguration

/-- `exec(budget)` (R558) ends in `t`: the loop takes as many steps as it needs, whatever the cost table. With a table
that charges nothing for some opcode there may be no such `t`: then the loop of R558 does not end. -/
def ExecEndsWith (run : Instr → State → Result) (budget : Nat) (s t : State) : Prop :=
  ∃ steps, execBudgetWithinWith run steps budget s = .next t

/-- `exec(budget)` in at most as many steps as the goal is cycles ahead, which is enough when every step charges a cycle
(log 22). -/
def execBudgetWith (run : Instr → State → Result) (budget : Nat) (s : State) : Result :=
  let t := s.raiseGoal budget
  execBudgetWithinWith run (t.cpu.goal - t.cpu.cycles).toNat budget s

/-! ### Placing an instruction where the next step fetches (log 23) -/

/-- Stores a byte in the cell an address selects, ROM cells included; an I/O address has no cell. -/
def placeByte (a : Word) (v : Byte) (s : State) : State :=
  match region a with
  | .bankedRom => { s with bus := { s.bus with rom := s.bus.rom.write (romIndex s.cfg s.bus.romBank.toNat a) v } }
  | .io => s
  | _ => memWrite a v s

/-- Stores bytes at rising addresses. -/
def placeBytes (a : Word) (bytes : List Byte) (s : State) : State :=
  match bytes with
  | [] => s
  | v :: bytes => placeBytes (a + 1) bytes (placeByte a v s)

/-- Whether the three bytes at an address are cells of RAM or ROM. -/
def fetchable (a : Word) : Bool :=
  decide (region a ≠ .io) && decide (region (a + 1) ≠ .io) && decide (region (a + 2) ≠ .io)

/-- Makes the next step fetch at once: no action of the host, no wait, no request that would be answered first, and a
program counter outside the I/O page. What already holds is left alone. -/
def readyToFetch (s : State) : State :=
  let s := { s with script := [], pins := { s.pins with nmiRequests := 0 } }
  let s := (s.setWait false).setStopped false
  let s := if irqLevel s && !s.cpu.p.i
    then { s with pins := { s.pins with extIrq := false }, video := { s.video with ien := 0#4 } } else s
  if fetchable s.cpu.pc then s else s.setPc 0x0200#16

/-- Stores the bytes of an instruction where the next step fetches. -/
def placeInstruction (bytes : List Byte) (s : State) : State :=
  let s := readyToFetch s
  placeBytes s.cpu.pc bytes s

end Sys2Proof.Machine
end

