-- ==== Sys2Proof/Machine/Step.lean ====
section
/-! DEFINITION. The step of the machine, `exec(budget)`, and the word that the next step fetches. Everything they do is
in `Machine/Schedule.lean`. -/

namespace Sys2Proof.Machine

/-- One step: the host's actions, then `machine_tick()` of the reference schedule or what `HOST_SCHEDULE` says
(`60_exceptions.md` R546, R560). -/
def step (s : State) : Host.Outcome State Fault Refusal := stepWith exec s

/-- The CPU's `step()` (`30_encoding.md` R140, R141). -/
def cpuStep (s : State) : Host.Outcome State Fault Refusal := cpuStepWith exec s

/-- `exec(budget)` (`60_exceptions.md` R558) in at most `steps` CPU steps. -/
def execBudgetWithin (steps budget : Nat) (s : State) : Host.Outcome State Fault Refusal :=
  execBudgetWithinWith exec steps budget s

/-- `exec(budget)` (`60_exceptions.md` R558) ends in `t`, after any number of CPU steps. -/
def ExecEnds (budget : Nat) (s t : State) : Prop := ExecEndsWith exec budget s t

/-- `exec(budget)` (`60_exceptions.md` R558), evaluated: one CPU step for each cycle to the goal at most. -/
def execBudget (budget : Nat) (s : State) : Host.Outcome State Fault Refusal := execBudgetWith exec budget s

/-- `s` with the instruction of a table word where the next step fetches, so that `step` runs exactly it (log 23). -/
def State.withFetchWord (s : State) (nbits w : Nat) : State := placeInstruction (tableBytes nbits w) s

end Sys2Proof.Machine
end

