-- ==== Sys2Proof/Machine/Assembler.lean ====
section
/-! DEFINITION. The assembler form of an instruction (`30_encoding.md` R145, R146): the addressing mode and mnemonic of
every opcode value, the length that the mode gives, the operand syntax, and the offset of a branch. The machine does not
use it: it says of the encoding what the assembler writes. -/

namespace Sys2Proof.Machine

/-- The sixteen addressing modes under the short names of R145. -/
inductive Mode where
  | imp
  | acc
  | imm
  | zp
  | zpx
  | zpy
  | abs
  | absx
  | absy
  | ind
  | indx
  | indy
  | izp
  | rel
  | aix
  | zprel
deriving DecidableEq, Repr

/-- The column "Bytes" of R145. -/
def Mode.bytes (m : Mode) : Nat :=
  match m with
  | .imp => 1
  | .acc => 1
  | .imm => 2
  | .zp => 2
  | .zpx => 2
  | .zpy => 2
  | .abs => 3
  | .absx => 3
  | .absy => 3
  | .ind => 3
  | .indx => 2
  | .indy => 2
  | .izp => 2
  | .rel => 2
  | .aix => 3
  | .zprel => 3

/-- The mode of each opcode value in the map of R168, sixteen a line; an unmapped one is implied (R147). -/
def modeTable : List Mode :=
  List.flatten [
    [.imp, .indx, .imp, .imp, .zp, .zp, .zp, .zp, .imp, .imm, .acc, .imp, .abs, .abs, .abs, .zprel],
    [.rel, .indy, .izp, .imp, .zp, .zpx, .zpx, .zp, .imp, .absy, .acc, .imp, .abs, .absx, .absx, .zprel],
    [.abs, .indx, .imp, .imp, .zp, .zp, .zp, .zp, .imp, .imm, .acc, .imp, .abs, .abs, .abs, .zprel],
    [.rel, .indy, .izp, .imp, .zpx, .zpx, .zpx, .zp, .imp, .absy, .acc, .imp, .absx, .absx, .absx, .zprel],
    [.imp, .indx, .imp, .imp, .imp, .zp, .zp, .zp, .imp, .imm, .acc, .imp, .abs, .abs, .abs, .zprel],
    [.rel, .indy, .izp, .imp, .imp, .zpx, .zpx, .zp, .imp, .absy, .imp, .imp, .imp, .absx, .absx, .zprel],
    [.imp, .indx, .imp, .imp, .zp, .zp, .zp, .zp, .imp, .imm, .acc, .imp, .ind, .abs, .abs, .zprel],
    [.rel, .indy, .izp, .imp, .zpx, .zpx, .zpx, .zp, .imp, .absy, .imp, .imp, .aix, .absx, .absx, .zprel],
    [.rel, .indx, .imp, .imp, .zp, .zp, .zp, .zp, .imp, .imm, .imp, .imp, .abs, .abs, .abs, .zprel],
    [.rel, .indy, .izp, .imp, .zpx, .zpx, .zpy, .zp, .imp, .absy, .imp, .imp, .abs, .absx, .absx, .zprel],
    [.imm, .indx, .imm, .imp, .zp, .zp, .zp, .zp, .imp, .imm, .imp, .imp, .abs, .abs, .abs, .zprel],
    [.rel, .indy, .izp, .imp, .zpx, .zpx, .zpy, .zp, .imp, .absy, .imp, .imp, .absx, .absx, .absy, .zprel],
    [.imm, .indx, .imp, .imp, .zp, .zp, .zp, .zp, .imp, .imm, .imp, .imp, .abs, .abs, .abs, .zprel],
    [.rel, .indy, .izp, .imp, .imp, .zpx, .zpx, .zp, .imp, .absy, .imp, .imp, .imp, .absx, .absx, .zprel],
    [.imm, .indx, .imp, .imp, .zp, .zp, .zp, .zp, .imp, .imm, .imp, .imp, .abs, .abs, .abs, .zprel],
    [.rel, .indy, .izp, .imp, .imp, .zpx, .zpx, .zp, .imp, .absy, .imp, .imp, .imp, .absx, .absx, .zprel]]

/-- The mode of an opcode. -/
def opcodeMode (op : Byte) : Mode := modeTable.getD op.toNat .imp

/-- The mnemonic of each opcode value in the map of R168, empty where it is unmapped: R145 and R146 give no spelling. -/
def mnemonicTable : List String :=
  List.flatten [
    ["BRK", "ORA", "", "", "TSB", "ORA", "ASL", "RMB0", "PHP", "ORA", "ASL", "", "TSB", "ORA", "ASL", "BBR0"],
    ["BPL", "ORA", "ORA", "", "TRB", "ORA", "ASL", "RMB1", "CLC", "ORA", "INC", "", "TRB", "ORA", "ASL", "BBR1"],
    ["JSR", "AND", "", "", "BIT", "AND", "ROL", "RMB2", "PLP", "AND", "ROL", "", "BIT", "AND", "ROL", "BBR2"],
    ["BMI", "AND", "AND", "", "BIT", "AND", "ROL", "RMB3", "SEC", "AND", "DEC", "", "BIT", "AND", "ROL", "BBR3"],
    ["RTI", "EOR", "", "", "", "EOR", "LSR", "RMB4", "PHA", "EOR", "LSR", "", "JMP", "EOR", "LSR", "BBR4"],
    ["BVC", "EOR", "EOR", "", "", "EOR", "LSR", "RMB5", "CLI", "EOR", "PHY", "", "", "EOR", "LSR", "BBR5"],
    ["RTS", "ADC", "", "", "STZ", "ADC", "ROR", "RMB6", "PLA", "ADC", "ROR", "", "JMP", "ADC", "ROR", "BBR6"],
    ["BVS", "ADC", "ADC", "", "STZ", "ADC", "ROR", "RMB7", "SEI", "ADC", "PLY", "", "JMP", "ADC", "ROR", "BBR7"],
    ["BRA", "STA", "", "", "STY", "STA", "STX", "SMB0", "DEY", "BIT", "TXA", "", "STY", "STA", "STX", "BBS0"],
    ["BCC", "STA", "STA", "", "STY", "STA", "STX", "SMB1", "TYA", "STA", "TXS", "", "STZ", "STA", "STZ", "BBS1"],
    ["LDY", "LDA", "LDX", "", "LDY", "LDA", "LDX", "SMB2", "TAY", "LDA", "TAX", "", "LDY", "LDA", "LDX", "BBS2"],
    ["BCS", "LDA", "LDA", "", "LDY", "LDA", "LDX", "SMB3", "CLV", "LDA", "TSX", "", "LDY", "LDA", "LDX", "BBS3"],
    ["CPY", "CMP", "", "", "CPY", "CMP", "DEC", "SMB4", "INY", "CMP", "DEX", "WAI", "CPY", "CMP", "DEC", "BBS4"],
    ["BNE", "CMP", "CMP", "", "", "CMP", "DEC", "SMB5", "CLD", "CMP", "PHX", "", "", "CMP", "DEC", "BBS5"],
    ["CPX", "SBC", "", "", "CPX", "SBC", "INC", "SMB6", "INX", "SBC", "NOP", "", "CPX", "SBC", "INC", "BBS6"],
    ["BEQ", "SBC", "SBC", "", "", "SBC", "INC", "SMB7", "SED", "SBC", "PLX", "", "", "SBC", "INC", "BBS7"]]

/-- The mnemonic of an opcode. -/
def opcodeMnemonic (op : Byte) : String := mnemonicTable.getD op.toNat ""

/-- The digit of RMBn, SMBn, BBRn, BBSn: "the digit is the bit number" (R145). It stands in bits 6:4 of the opcode. -/
def opcodeBit (op : Byte) : Option Nat :=
  if op.toNat % 8 = 7 then some (op.toNat / 16 % 8) else none

/-- A hexadecimal digit, capital letters as in the examples of the spec. -/
def hexDigit (n : Nat) : Char :=
  ['0', '1', '2', '3', '4', '5', '6', '7', '8', '9', 'A', 'B', 'C', 'D', 'E', 'F'].getD n '0'

/-- `$nn` (R145). -/
def hexByte (b : Byte) : List Char := ['$', hexDigit (b.toNat / 16), hexDigit (b.toNat % 16)]

/-- `$nnnn` (R145). -/
def hexWord (w : Word) : List Char :=
  ['$', hexDigit (w.toNat / 4096), hexDigit (w.toNat / 256 % 16), hexDigit (w.toNat / 16 % 16), hexDigit (w.toNat % 16)]

/-- The column "Syntax" of R145, from the operand bytes; `next` is the address of the next instruction, from which a
relative form counts. -/
def Mode.operandText (m : Mode) (next : Word) (b c : Byte) : List Char :=
  match m with
  | .imp => []
  | .acc => ['A']
  | .imm => '#' :: hexByte b
  | .zp => hexByte b
  | .zpx => hexByte b ++ [',', 'X']
  | .zpy => hexByte b ++ [',', 'Y']
  | .abs => hexWord (c ++ b)
  | .absx => hexWord (c ++ b) ++ [',', 'X']
  | .absy => hexWord (c ++ b) ++ [',', 'Y']
  | .ind => '(' :: hexWord (c ++ b) ++ [')']
  | .indx => '(' :: hexByte b ++ [',', 'X', ')']
  | .indy => '(' :: hexByte b ++ [')', ',', 'Y']
  | .izp => '(' :: hexByte b ++ [')']
  | .rel => hexWord (next + b.signExtend 16)
  | .aix => '(' :: hexWord (c ++ b) ++ [',', 'X', ')']
  | .zprel => hexByte b ++ ',' :: hexWord (next + c.signExtend 16)

/-- The assembler form of an instruction: mnemonic and operand text; an unmapped opcode has none (R145, R146). -/
def assembly (next : Word) (i : Instr) : Option (String × List Char) :=
  match encode i with
  | [] => none
  | op :: operands =>
    if opcodeMnemonic op = "" then none
    else some (opcodeMnemonic op, (opcodeMode op).operandText next (operands.getD 0 0) (operands.getD 1 0))

/-- The offset byte the assembler writes for a target: target minus the address of the next instruction, if it lies in
-128 to 127 (R146); addresses wrap modulo 2^16 as in the machine (R163). -/
def branchOffset (next target : Word) : Option Byte :=
  let d := (target - next).toInt
  if -128 ≤ d ∧ d ≤ 127 then some (BitVec.ofInt 8 d) else none

end Sys2Proof.Machine
end

