-- ==== Sys2Proof/Safety.lean ====
section
/-! DEFINITION. What the claims call a sound machine: memories in canonical form and inside their arrays, legal video
state, legal bank registers, and a machine whose next step fetches. No instruction of this machine can stop it
(`93_implementation_defined.md`, part 1: "No behaviour of this machine is a `fault`"), so safety is about the state. -/

namespace Sys2Proof.Machine

open Sys2Proof.Config

/-- A memory in canonical form with no byte outside an array of `size` bytes. -/
def Memory.sound (size : Nat) (m : Memory) : Bool := m.wf && m.below size

/-- The four memories are canonical and inside the arrays of `10_state.md` R50 to R52 and R56. -/
def State.memorySound (s : State) : Bool :=
  s.bus.ram.sound 0x9F00 && s.bus.bram.sound (s.cfg.numRamBanks * 0x2000) &&
    s.bus.rom.sound (s.cfg.numRomBanks * 0x4000) && s.video.vram.sound 0x20000

/-- `ram_bank` fits its register (`20_memory.md` R96, `10_state.md` R53). -/
def State.bankLegal (s : State) : Bool := decide (s.bus.ramBank < 2 ^ s.cfg.ramBankRegWidth)

/-- The rows of the frame buffer: rising, below the screen height, each as wide as the screen, and none that
reads as an unlisted one (`10_state.md` R70; log 7). -/
def rowsLegal (cfg : Params) (low : Nat) (fb : List (Nat × List Rgb)) : Bool :=
  match fb with
  | [] => true
  | (e, row) :: fb =>
    decide (low ≤ e) && decide (e < cfg.screenHeight) && decide (row.length = cfg.screenWidth) &&
      row.any (fun p => decide (p ≠ Rgb.unlisted)) && rowsLegal cfg (e + 1) fb

/-- Legal video state: `isr` bit 3 is not stored (`50_video_registers.md` R382), a collision mask stands in the high
nibble (`10_state.md` R68, `51_renderer.md` R447), `scan_y` counts below `SCAN_HEIGHT` (R434), the rows are legal. -/
def Video.legal (cfg : Params) (v : Video) : Bool :=
  !testBit v.isr 3 && decide (v.spriteCollisions &&& 0x0F#8 = 0) && decide (v.scanY < cfg.scanHeight) &&
    rowsLegal cfg 0 v.fb

/-- The next step fetches at `PC` at once: a legal configuration, nothing for the host to do, no NMI, no IRQ that would
be taken, and the CPU neither waits nor is stopped (`60_exceptions.md` R546, `30_encoding.md` R140, R141). -/
def State.ready (s : State) : Bool :=
  s.cfg.wellFormed && s.script.isEmpty && decide (s.pins.nmiRequests = 0) && !(irqLevel s && !s.cpu.p.i) && !s.idle

end Sys2Proof.Machine
end

