-- ==== Sys2Proof/Certificates/Slice0/Obligations.lean ====
section
/-! DEFINITION. The statements for the provers. Where a statement says `exec i s`, `s` is the machine after the fetch:
`PC` is the address of the next instruction and `ICOUNT` counts this one (`30_encoding.md` R140, R144). The shapes that
several instructions share are named first, in `Sys2Proof.Claims`. -/

open Sys2Proof Sys2Proof.Machine Sys2Proof.Config

namespace Sys2Proof.Claims

/-- The default cost of each opcode value, sixteen a line (R165). -/
def costs : List Nat :=
  [7, 6, 2, 2, 5, 3, 5, 5, 3, 2, 2, 2, 6, 4, 6, 5] ++
  [2, 5, 5, 2, 5, 4, 6, 5, 2, 4, 2, 2, 6, 4, 6, 5] ++
  [6, 6, 2, 2, 3, 3, 5, 5, 4, 2, 2, 2, 4, 4, 6, 5] ++
  [2, 5, 5, 2, 4, 4, 6, 5, 2, 4, 2, 2, 4, 4, 6, 5] ++
  [6, 6, 2, 2, 2, 3, 5, 5, 3, 2, 2, 2, 3, 4, 6, 5] ++
  [2, 5, 5, 2, 2, 4, 6, 5, 2, 4, 3, 2, 2, 4, 6, 5] ++
  [6, 6, 2, 2, 3, 3, 5, 5, 4, 2, 2, 2, 6, 4, 6, 5] ++
  [2, 5, 5, 2, 4, 4, 6, 5, 2, 4, 4, 2, 6, 4, 6, 5] ++
  [2, 6, 2, 2, 3, 3, 3, 5, 2, 2, 2, 2, 4, 4, 4, 5] ++
  [2, 6, 5, 2, 4, 4, 4, 5, 2, 5, 2, 2, 4, 5, 5, 5] ++
  [2, 6, 2, 2, 3, 3, 3, 5, 2, 2, 2, 2, 4, 4, 4, 5] ++
  [2, 5, 5, 2, 4, 4, 4, 5, 2, 4, 2, 2, 4, 4, 4, 5] ++
  [2, 6, 2, 2, 3, 3, 5, 5, 2, 2, 2, 3, 4, 4, 6, 5] ++
  [2, 5, 5, 2, 2, 4, 6, 5, 2, 4, 3, 2, 2, 4, 7, 5] ++
  [2, 6, 2, 2, 3, 3, 5, 5, 2, 2, 2, 2, 4, 4, 6, 5] ++
  [2, 5, 5, 2, 2, 4, 6, 5, 2, 4, 4, 2, 2, 4, 7, 5]

/-- The opcodes that pay a crossed page by default, those with a `+` in the table of R165. -/
def paying : List Nat :=
  [0x11, 0x19, 0x1D, 0x1E, 0x31, 0x39, 0x3C, 0x3D, 0x3E, 0x51, 0x59, 0x5D, 0x5E, 0x71,
   0x79, 0x7D, 0x7E, 0xB1, 0xB9, 0xBC, 0xBD, 0xBE, 0xD1, 0xD9, 0xDD, 0xF1, 0xF9, 0xFD]

/-- The number of bytes of the instructions with each opcode value, sixteen a line: the mode of the opcode in the map of
R168, and the column "Bytes" of R145 for the mode. -/
def lengths : List Nat :=
  [1, 2, 1, 1, 2, 2, 2, 2, 1, 2, 1, 1, 3, 3, 3, 3] ++
  [2, 2, 2, 1, 2, 2, 2, 2, 1, 3, 1, 1, 3, 3, 3, 3] ++
  [3, 2, 1, 1, 2, 2, 2, 2, 1, 2, 1, 1, 3, 3, 3, 3] ++
  [2, 2, 2, 1, 2, 2, 2, 2, 1, 3, 1, 1, 3, 3, 3, 3] ++
  [1, 2, 1, 1, 1, 2, 2, 2, 1, 2, 1, 1, 3, 3, 3, 3] ++
  [2, 2, 2, 1, 1, 2, 2, 2, 1, 3, 1, 1, 1, 3, 3, 3] ++
  [1, 2, 1, 1, 2, 2, 2, 2, 1, 2, 1, 1, 3, 3, 3, 3] ++
  [2, 2, 2, 1, 2, 2, 2, 2, 1, 3, 1, 1, 3, 3, 3, 3] ++
  [2, 2, 1, 1, 2, 2, 2, 2, 1, 2, 1, 1, 3, 3, 3, 3] ++
  [2, 2, 2, 1, 2, 2, 2, 2, 1, 3, 1, 1, 3, 3, 3, 3] ++
  [2, 2, 2, 1, 2, 2, 2, 2, 1, 2, 1, 1, 3, 3, 3, 3] ++
  [2, 2, 2, 1, 2, 2, 2, 2, 1, 3, 1, 1, 3, 3, 3, 3] ++
  [2, 2, 1, 1, 2, 2, 2, 2, 1, 2, 1, 1, 3, 3, 3, 3] ++
  [2, 2, 2, 1, 1, 2, 2, 2, 1, 3, 1, 1, 1, 3, 3, 3] ++
  [2, 2, 1, 1, 2, 2, 2, 2, 1, 2, 1, 1, 3, 3, 3, 3] ++
  [2, 2, 2, 1, 1, 2, 2, 2, 1, 3, 1, 1, 1, 3, 3, 3]

/-- `CYCLES` after an instruction with this opcode that pays `extra` cycles above its base cost. -/
def cyclesAfter (s : State) (op extra : Nat) : Counter :=
  s.cpu.cycles + BitVec.ofNat 32 (s.cfg.baseCost.getD op 0 + extra)

/-- One cycle more where the opcode pays the page-crossing penalty and its mode crossed a page. -/
def crossing (s : State) (op : Nat) (cross : Bool) : Nat := if op ∈ s.cfg.penalty ∧ cross = true then 1 else 0

/-- The flags with N and Z taken from a byte. -/
def nzOf (v : Byte) (f : Flags) : Flags := { f with n := v.msb, z := decide (v = 0) }

/-- The operand is a byte of an I/O device. -/
def onDevice (o : Operand) (s : State) : Prop :=
  match o with
  | .imm _ => False
  | .mem m => region (m.address s) = .io

/-- The frame of an instruction that only reads: outside the CPU nothing changes but what the one read of its operand
changes; no byte of memory changes; and if the operand is no device, nothing outside the CPU changes at all. -/
def readsOnly (o : Operand) (s t : State) : Prop :=
  t = { (o.read s).2 with cpu := t.cpu } ∧
  (∀ b, t.cell b = s.cell b) ∧ t.bus = s.bus ∧ t.video.vram = s.video.vram ∧ t.video.fb = s.video.fb ∧
  t.emu = s.emu ∧ t.pins = s.pins ∧ t.cfg = s.cfg ∧ t.script = s.script ∧
  (¬onDevice o s → t = { s with cpu := t.cpu })

/-- A load: the register takes the operand, N and Z follow it, nothing else of the CPU but `CYCLES` changes. -/
def loads (put : Byte → Cpu → Cpu) (i : Instr) (op : Nat) (o : Operand) : Prop :=
  ∀ s : State, ∃ t, exec i s = .next t ∧ readsOnly o s t ∧
    t.cpu = { put (o.read s).1 s.cpu with
      p := nzOf (o.read s).1 s.cpu.p, cycles := cyclesAfter s op (crossing s op (o.cross s)) }

/-- A combination of `A` with the operand goes to `A`, N and Z follow it. -/
def combines (f : Byte → Byte → Byte) (i : Instr) (op : Nat) (o : Operand) : Prop :=
  ∀ s : State, ∃ t, exec i s = .next t ∧ readsOnly o s t ∧
    t.cpu = { s.cpu with
      a := f s.cpu.a (o.read s).1, p := nzOf (f s.cpu.a (o.read s).1) s.cpu.p
      cycles := cyclesAfter s op (crossing s op (o.cross s)) }

/-- A compare: C, Z and N from the unsigned difference, and no register. -/
def compares (reg : Cpu → Byte) (i : Instr) (op : Nat) (o : Operand) : Prop :=
  ∀ s : State, ∃ t, exec i s = .next t ∧ readsOnly o s t ∧
    t.cpu = { s.cpu with
      p := { s.cpu.p with
        c := decide ((o.read s).1.toNat ≤ (reg s.cpu).toNat)
        z := decide (reg s.cpu = (o.read s).1)
        n := decide (128 ≤ (256 + (reg s.cpu).toNat - (o.read s).1.toNat) % 256) }
      cycles := cyclesAfter s op (crossing s op (o.cross s)) }

/-- What a store does to the machine: one write at `ea`. A RAM cell takes the byte and no other cell changes; a ROM
address changes nothing; a device address changes no cell. -/
def storesAt (ea : Word) (v : Byte) (s t : State) : Prop :=
  t = { memWrite ea v s with cpu := t.cpu } ∧
  (∀ b, b ≠ ea → t.cell b = s.cell b) ∧
  (region ea = .directRam ∨ region ea = .bankedRam →
    t.cell ea = v ∧ t = { s with bus := t.bus, cpu := t.cpu }) ∧
  (region ea = .bankedRom → t = { s with cpu := t.cpu }) ∧
  (region ea = .io → t.bus = s.bus) ∧
  t.bus.rom = s.bus.rom ∧ t.bus.ramBank = s.bus.ramBank ∧ t.bus.romBank = s.bus.romBank ∧
  t.cfg = s.cfg ∧ t.pins = s.pins ∧ t.script = s.script

/-- A store of the byte `v` gives: the address is the mode's, and of the CPU only `CYCLES` changes. -/
def stores (v : Cpu → Byte) (i : Instr) (op : Nat) (m : AddrMode) : Prop :=
  ∀ s : State, ∃ t, exec i s = .next t ∧ storesAt (m.address s) (v s.cpu) s t ∧
    t.cpu = { s.cpu with cycles := cyclesAfter s op (crossing s op (m.cross s)) }

/-- A result and the flags it leaves. -/
abbrev Change := Byte → Cpu → Byte × Flags

/-- A read-modify-write of memory: one read of `ea`, one write of the result there, then the flags. At a RAM address
the cell takes the result, and no other cell and no other part of the machine changes. -/
def modifies (f : Change) (i : Instr) (op : Nat) (m : AddrMode) : Prop :=
  ∀ s : State, ∃ t, exec i s = .next t ∧
    t = { memWrite (m.address s) (f (memRead (m.address s) s).1 s.cpu).1 (memRead (m.address s) s).2 with
          cpu := t.cpu } ∧
    (∀ b, b ≠ m.address s → t.cell b = s.cell b) ∧
    (region (m.address s) = .directRam ∨ region (m.address s) = .bankedRam →
      t.cell (m.address s) = (f (s.cell (m.address s)) s.cpu).1 ∧ t = { s with bus := t.bus, cpu := t.cpu }) ∧
    t.bus.rom = s.bus.rom ∧
    t.cpu = { s.cpu with
      p := (f (memRead (m.address s) s).1 s.cpu).2, cycles := cyclesAfter s op (crossing s op (m.cross s)) }

/-- The same change of the accumulator; nothing outside the CPU changes. -/
def modifiesA (f : Change) (i : Instr) (op : Nat) : Prop :=
  ∀ s : State, exec i s = .next { s with cpu := { s.cpu with
    a := (f s.cpu.a s.cpu).1, p := (f s.cpu.a s.cpu).2, cycles := cyclesAfter s op 0 } }

/-- Increment and decrement, on numbers. -/
def incremented (by' : Nat) : Change := fun v c =>
  let r := BitVec.ofNat 8 (v.toNat + by')
  (r, nzOf r c.p)

/-- A shift or rotate, on numbers: the result, and the bit that leaves for the carry. -/
def shifted (result : Nat → Nat → Nat) (out : Nat → Bool) : Change := fun v c =>
  let r := BitVec.ofNat 8 (result v.toNat c.p.c.toNat)
  (r, { nzOf r c.p with c := out v.toNat })

/-- ASL: doubled, bit 7 leaves. -/
def doubled : Change := shifted (fun v _ => 2 * v) (fun v => decide (128 ≤ v))

/-- LSR: halved, bit 0 leaves. -/
def halved : Change := shifted (fun v _ => v / 2) (fun v => decide (v % 2 = 1))

/-- ROL: doubled, the old carry comes in at bit 0, bit 7 leaves. -/
def rotatedLeft : Change := shifted (fun v c => 2 * v + c) (fun v => decide (128 ≤ v))

/-- ROR: halved, the old carry comes in at bit 7, bit 0 leaves. -/
def rotatedRight : Change := shifted (fun v c => v / 2 + 128 * c) (fun v => decide (v % 2 = 1))

/-- The bits of `A` that are clear (`keep := false`) or set in a byte are merged into it, and Z is the AND of both. -/
def tested (set : Bool) : Change := fun v c =>
  (if set then v ||| c.a else v &&& ~~~c.a, { c.p with z := decide (c.a &&& v = 0) })

/-- Bit `n` of a byte set or cleared, no flag. -/
def bitPut (n : Nat) (set : Bool) : Change := fun v c =>
  (if set then v ||| 1#8 <<< n else v &&& ~~~(1#8 <<< n), c.p)

/-- An instruction that changes registers or flags of the CPU only. -/
def changesCpu (i : Instr) (op : Nat) (f : Cpu → Cpu) : Prop :=
  ∀ s : State, exec i s = .next { s with cpu := { f s.cpu with cycles := cyclesAfter s op 0 } }

/-- The opcode byte, the length and the default cost of a one-byte instruction. -/
def oneByte (i : Instr) (op : Byte) (cycles : Nat) : Prop :=
  encode i = [op] ∧ Params.default.baseCost.getD op.toNat 0 = cycles ∧ op.toNat ∉ Params.default.penalty

/-- The target of a branch, on numbers modulo 2^16, from `PC` at the next instruction. -/
def target (next : Word) (r : Byte) : Word := BitVec.ofInt 16 (next.toNat + r.toInt)

/-- A branch: `PC` goes to the target or stays; no flag and no memory changes; a taken branch pays one cycle, and one
more when the target is in another page than the next instruction, whatever `PENALTY` lists (log 32). -/
def branches (i : Byte → Instr) (op : Nat) (taken : State → Bool) : Prop :=
  ∀ (r : Byte) (s : State), exec (i r) s = .next { s with cpu := { s.cpu with
    pc := if taken s then target s.cpu.pc r else s.cpu.pc
    cycles := cyclesAfter s op (if taken s then
      (if (target s.cpu.pc r).toNat / 256 = s.cpu.pc.toNat / 256 then 1 else 2) else 0) } }

/-- The cell of the stack page that `SP + k` names. -/
def stackSlot (s : State) (k : Byte) : Nat := 0x100 + (s.cpu.sp + k).toNat

/-- A push of one byte: the cell at `$0100 + SP` takes it, `SP` goes down by 1 modulo 256, nothing else changes. -/
def pushes (v : Cpu → Byte) (i : Instr) (op : Nat) : Prop :=
  ∀ s : State, ∃ t, exec i s = .next t ∧
    t = { s with cpu := t.cpu, bus := { s.bus with ram := t.bus.ram } } ∧
    (∀ k, t.bus.ram.read k = if k = stackSlot s 0 then v s.cpu else s.bus.ram.read k) ∧
    t.cpu = { s.cpu with sp := s.cpu.sp - 1, cycles := cyclesAfter s op 0 }

/-- A pull of one byte: `SP` goes up by 1 modulo 256 and the cell there is read; no memory changes. -/
def pulls (put : Byte → Cpu → Cpu) (i : Instr) (op : Nat) : Prop :=
  ∀ s : State, exec i s = .next { s with cpu := { put (s.bus.ram.read (stackSlot s 1)) s.cpu with
    sp := s.cpu.sp + 1, cycles := cyclesAfter s op 0 } }

/-- The status byte, bit by bit: N V 1 B D I Z C. -/
def statusByte (f : Flags) : Byte :=
  BitVec.ofNat 8 (128 * f.n.toNat + 64 * f.v.toNat + 32 + 16 * f.b.toNat + 8 * f.d.toNat + 4 * f.i.toNat +
    2 * f.z.toNat + f.c.toNat)

/-- The flags in a status byte; bit 5 has no flag. -/
def flagsIn (v : Byte) : Flags :=
  { n := v.getLsbD 7, v := v.getLsbD 6, b := v.getLsbD 4, d := v.getLsbD 3, i := v.getLsbD 2, z := v.getLsbD 1,
    c := v.getLsbD 0 }

/-- Two bytes as a 16-bit number. -/
def word (hi lo : Byte) : Word := BitVec.ofNat 16 (256 * hi.toNat + lo.toNat)

/-- The machine after three pushes, the return address high byte first and then the status, with the flags and the
program counter of the handler. -/
def entered (s t : State) (ret : Word) (status : Byte) (flags : Flags) (vector : Word) : Prop :=
  t = { s with cpu := t.cpu, bus := { s.bus with ram := t.bus.ram } } ∧
  (∀ k, t.bus.ram.read k =
    if k = stackSlot s 0 then BitVec.ofNat 8 (ret.toNat / 256)
    else if k = stackSlot s (-1) then BitVec.ofNat 8 ret.toNat
    else if k = stackSlot s (-2) then status
    else s.bus.ram.read k) ∧
  t.cpu.sp = s.cpu.sp - 3 ∧ t.cpu.p = flags ∧ t.cpu.pc = word (s.cell (vector + 1)) (s.cell vector) ∧
  t.cpu.a = s.cpu.a ∧ t.cpu.x = s.cpu.x ∧ t.cpu.y = s.cpu.y ∧ t.cpu.stopped = s.cpu.stopped ∧
  t.cpu.icount = s.cpu.icount ∧ t.cpu.goal = s.cpu.goal

/-- An opcode that does nothing but advance and charge, in the states where `when'` holds. -/
def doesNothing (when' : State → Prop) (i : Instr) (op : Nat) : Prop :=
  ∀ s : State, when' s → exec i s = .next { s with cpu := { s.cpu with
    pc := s.cpu.pc + BitVec.ofNat 16 (s.cfg.unmappedLength - 1), cycles := cyclesAfter s op 0 } }

/-- At this state the instruction completes with its base cost and no other change. -/
def changesNothing (i : Instr) (op : Nat) (s : State) : Prop :=
  exec i s = .next { s with cpu := { s.cpu with cycles := cyclesAfter s op 0 } }

/-- A jump through a pointer: two bytes are read, low byte first, the second at the next address modulo 2^16; `PC` is
their word. Outside the CPU only the two reads can change anything, and outside the I/O page they change nothing. -/
def jumpsThrough (i : Instr) (op : Nat) (ptr : State → Word) : Prop :=
  ∀ s : State, ∃ t, exec i s = .next t ∧
    t = { (memRead (ptr s + 1) (memRead (ptr s) s).2).2 with cpu := t.cpu } ∧
    t.cpu = { s.cpu with
      pc := word (memRead (ptr s + 1) (memRead (ptr s) s).2).1 (memRead (ptr s) s).1
      cycles := cyclesAfter s op 0 } ∧
    (∀ b, t.cell b = s.cell b) ∧
    (region (ptr s) ≠ .io → region (ptr s + 1) ≠ .io →
      t = { s with cpu := t.cpu } ∧ t.cpu.pc = word (s.cell (ptr s + 1)) (s.cell (ptr s)))

/-- A bit test of memory: N and V are bits 7 and 6 of the operand, Z whether it has no bit in common with `A`. -/
def testsMemory (i : Instr) (op : Nat) (m : AddrMode) : Prop :=
  ∀ s : State, ∃ t, exec i s = .next t ∧ readsOnly (.mem m) s t ∧
    t.cpu = { s.cpu with
      p := { s.cpu.p with
        n := (memRead (m.address s) s).1.getLsbD 7
        v := (memRead (m.address s) s).1.getLsbD 6
        z := decide (s.cpu.a &&& (memRead (m.address s) s).1 = 0) }
      cycles := cyclesAfter s op (crossing s op (m.cross s)) }

/-- The program counter and the flags are the given ones, and `SP`, `A`, `X` and `Y` are those of the first state. -/
def backAt (s u : State) (pc : Word) (p : Flags) : Prop :=
  u.cpu.pc = pc ∧ u.cpu.p = p ∧ u.cpu.sp = s.cpu.sp ∧ u.cpu.a = s.cpu.a ∧ u.cpu.x = s.cpu.x ∧ u.cpu.y = s.cpu.y

/-- The two BCD digits of a byte are decimal. -/
def decimalDigits (v : Byte) : Prop := v.toNat / 16 ≤ 9 ∧ v.toNat % 16 ≤ 9

/-- The number two BCD digits stand for. -/
def bcd (v : Byte) : Nat := 10 * (v.toNat / 16) + v.toNat % 16

/-- A number below 100 in BCD. -/
def toBcd (n : Nat) : Byte := BitVec.ofNat 8 (16 * (n / 10) + n % 10)

/-- ADC or SBC, in each form: only `A` and N, V, Z, C and `CYCLES` of the CPU change; in binary mode they are as
`binary` says; in decimal mode, with decimal digits, `A`, C, Z and N are as `decimal` says and V is not said. -/
def accumulates (binary decimal : Byte → Byte → Bool → Byte × Bool) (overflow : Byte → Byte → Bool → Bool)
    (i : Instr) (op : Nat) (o : Operand) : Prop :=
  ∀ s : State, ∃ t, exec i s = .next t ∧ readsOnly o s t ∧
    t.cpu = { s.cpu with
      a := t.cpu.a, p := { s.cpu.p with n := t.cpu.p.n, v := t.cpu.p.v, z := t.cpu.p.z, c := t.cpu.p.c }
      cycles := cyclesAfter s op
        (crossing s op (o.cross s) + if s.cpu.p.d then s.cfg.decimalExtraCycle else 0) } ∧
    (s.cpu.p.d = false →
      (t.cpu.a, t.cpu.p.c) = binary s.cpu.a (o.read s).1 s.cpu.p.c ∧
      t.cpu.p.v = overflow s.cpu.a (o.read s).1 s.cpu.p.c ∧ t.cpu.p.n = t.cpu.a.msb ∧
      t.cpu.p.z = decide (t.cpu.a = 0)) ∧
    (s.cpu.p.d = true → decimalDigits s.cpu.a → decimalDigits (o.read s).1 →
      (t.cpu.a, t.cpu.p.c) = decimal s.cpu.a (o.read s).1 s.cpu.p.c ∧ t.cpu.p.n = t.cpu.a.msb ∧
      t.cpu.p.z = decide (t.cpu.a = 0))

/-- A signed number outside the range of a byte. -/
def outOfRange (n : Int) : Bool := decide (n < -128 ∨ 127 < n)

/-- ADC: the sum with the carry. -/
def adds : Instr → Nat → Operand → Prop :=
  accumulates
    (fun a v c => (BitVec.ofNat 8 (a.toNat + v.toNat + c.toNat), decide (256 ≤ a.toNat + v.toNat + c.toNat)))
    (fun a v c => (toBcd ((bcd a + bcd v + c.toNat) % 100), decide (100 ≤ bcd a + bcd v + c.toNat)))
    (fun a v c => outOfRange (a.toInt + v.toInt + c.toNat))

/-- SBC: the difference with the borrow, which is the complement of the carry. -/
def subtracts : Instr → Nat → Operand → Prop :=
  accumulates
    (fun a v c => (BitVec.ofNat 8 (a.toNat + 255 - v.toNat + c.toNat), decide (v.toNat + 1 ≤ a.toNat + c.toNat)))
    (fun a v c => (toBcd ((100 + bcd a + c.toNat - 1 - bcd v) % 100), decide (bcd v + 1 ≤ bcd a + c.toNat)))
    (fun a v c => outOfRange (a.toInt - v.toInt - 1 + c.toNat))

/-- The signed step of each of the 32 increment codes (R371). -/
def steps : List Int :=
  [0, 0, 1, -1, 2, -2, 4, -4, 8, -8, 16, -16, 32, -32, 64, -64,
   128, -128, 256, -256, 512, -512, 40, -40, 80, -80, 160, -160, 320, -320, 640, -640]

/-- The external device and its register that an I/O address reaches: the audio bank, the PCM registers $1B to $1D and
the SPI registers $1E and $1F of the video bank, and the two VIAs. -/
def routed (a : Word) : Option (ExtDev × Nat) :=
  let n := a.toNat
  if 0x9F00 ≤ n ∧ n ≤ 0x9F1F then some (.audio, n - 0x9F00)
  else if 0x9F3B ≤ n ∧ n ≤ 0x9F3D then some (.pcm, n - 0x9F3B)
  else if 0x9F3E ≤ n ∧ n ≤ 0x9F3F then some (.spi, n - 0x9F3E)
  else if 0x9F60 ≤ n ∧ n ≤ 0x9F6F then some (.via1, n - 0x9F60)
  else if 0x9F70 ≤ n ∧ n ≤ 0x9F7F then some (.via2, n - 0x9F70)
  else none

/-- Every opcode costs at least one cycle and no step costs 2^30 or more. -/
def costsBounded (cfg : Params) : Prop :=
  (∀ op, op < 256 → 1 ≤ cfg.baseCost.getD op 0 ∧ cfg.baseCost.getD op 0 < 2 ^ 28) ∧
  cfg.decimalExtraCycle < 2 ^ 28 ∧ 1 ≤ cfg.waitStepCycles ∧ cfg.waitStepCycles < 2 ^ 28

/-- The number in the bits of a byte that a mask selects, moved down. -/
def bits (r : Nat) (mask shift : Nat) : Nat := (r &&& mask) >>> shift

/-- The colour of a tile or bitmap pixel with a palette offset: 0 and colours from 16 on stay. -/
def offsetColour (c offset : Nat) : Nat := if 0 < c ∧ c < 16 then c + 16 * offset else c

/-- The colour index of a layer at a source position, on the numbers in its registers `r 0` to `r 6` and the bytes of
video memory, addresses modulo 2^17. -/
def layerColour (v : Video) (r : Nat → Nat) (x y : Nat) : Nat :=
  let byte := fun a => (v.vram.read (a % 0x20000)).toNat
  let bpp := 1 <<< bits (r 0) 3 0
  let tiles := (r 2 &&& 0xFC) <<< 9
  let pixel := fun row tx => (byte (row + tx * bpp / 8) >>> (8 - bpp - tx * bpp % 8)) % 2 ^ bpp
  if bits (r 0) 4 2 = 1 then
    let w := if bits (r 2) 1 0 = 1 then 640 else 320
    offsetColour (pixel (tiles + y % 480 * (w * bpp / 8)) (x % w)) (bits (r 4) 0x0F 0)
  else
    let tw := if bits (r 2) 1 0 = 1 then 16 else 8
    let th := if bits (r 2) 2 1 = 1 then 16 else 8
    let mw := 32 <<< bits (r 0) 0x30 4
    let mh := 32 <<< bits (r 0) 0xC0 6
    let xx := (x + (bits (r 4) 0x0F 0 * 256 + r 3)) % (tw * mw)
    let yy := (y + (bits (r 6) 0x0F 0 * 256 + r 5)) % (th * mh)
    let entry := (r 1 <<< 9) + 2 * (yy / th * mw + xx / tw)
    let b0 := byte entry
    let b1 := byte (entry + 1)
    let tx := xx % tw
    let ty := yy % th
    if bpp = 1 then
      let lit := (byte (tiles + b0 * (tw / 8) * th + ty * (tw / 8) + tx / 8)).testBit (7 - tx % 8)
      if bits (r 0) 8 3 = 1 then (if lit then b1 else 0) else (if lit then b1 % 16 else b1 / 16)
    else
      let tx := if bits b1 4 2 = 1 then tw - 1 - tx else tx
      let ty := if bits b1 8 3 = 1 then th - 1 - ty else ty
      let tile := tiles + (b0 + 256 * bits b1 3 0) * (tw * th * bpp / 8)
      offsetColour (pixel (tile + ty * (tw * bpp / 8)) tx) (b1 / 16)

/-- Attribute byte `k` of sprite `i`, eight bytes a sprite from $1FC00. -/
def attr (v : Video) (i k : Nat) : Nat := (v.vram.read (0x1FC00 + 8 * i + k)).toNat

/-- Width of sprite `i` in pixels, 8 to 64. -/
def spriteWidth (v : Video) (i : Nat) : Nat := 8 <<< bits (attr v i 7) 0x30 4

/-- Height of sprite `i` in pixels, 8 to 64. -/
def spriteHeight (v : Video) (i : Nat) : Nat := 8 <<< bits (attr v i 7) 0xC0 6

/-- A ten-bit coordinate from its two bytes, negative from $400 less the size on. -/
def coordinate (lo hi size : Nat) : Int :=
  let c := lo + 256 * (hi &&& 3)
  if 0x400 - size ≤ c then (c : Int) - 0x400 else c

/-- The left column of sprite `i`. -/
def spriteX (v : Video) (i : Nat) : Int := coordinate (attr v i 2) (attr v i 3) (spriteWidth v i)

/-- The top line of sprite `i`. -/
def spriteY (v : Video) (i : Nat) : Int := coordinate (attr v i 4) (attr v i 5) (spriteHeight v i)

/-- The depth of sprite `i`. -/
def spriteZ (v : Video) (i : Nat) : Nat := bits (attr v i 6) 0x0C 2

/-- Bit `k` of the collision mask of sprite `i`, which stands in bits 7 to 4. -/
def inMask (v : Video) (i k : Nat) : Bool := (attr v i 6 &&& 0xF0).testBit k

/-- Sprite `i` has eight bits per pixel. -/
def deep (v : Video) (i : Nat) : Bool := (attr v i 1).testBit 7

/-- Sprite `i` has a depth and covers the source line `y`. -/
def onLine (v : Video) (y i : Nat) : Bool :=
  decide (spriteZ v i ≠ 0 ∧ spriteY v i ≤ y ∧ (y : Int) < spriteY v i + spriteHeight v i)

/-- The source column of pixel `sx` of sprite `i`. -/
def column (v : Video) (i sx : Nat) : Int := spriteX v i + sx

/-- What pixel `sx` of a sprite costs: nothing off the screen, else one unit and one more at a 32-bit boundary. -/
def pixelCost (cfg : Params) (v : Video) (i sx : Nat) : Nat :=
  if 0 ≤ column v i sx ∧ column v i sx < cfg.screenWidth then
    (if sx % (if deep v i then 4 else 8) = 0 then 2 else 1)
  else 0

/-- What the first `n` pixels of a sprite cost. -/
def pixelsCost (cfg : Params) (v : Video) (i n : Nat) : Nat := ((List.range n).map (pixelCost cfg v i)).sum

/-- What the first `n` sprites of a line cost: a look at each, and the pixels of those on the line. -/
def spritesCost (cfg : Params) (v : Video) (y n : Nat) : Nat :=
  ((List.range n).map fun i =>
    cfg.spriteLookupCost + if onLine v y i then pixelsCost cfg v i (spriteWidth v i) else 0).sum

/-- The colour of pixel `sx` of sprite `i` on the line `y`: the flips, then the byte or the half byte (the left pixel in
the high half) from the data address, bits 16 to 5, modulo 2^17. -/
def spriteColour (v : Video) (y i sx : Nat) : Nat :=
  let byte := fun a => (v.vram.read (a % 0x20000)).toNat
  let data := (attr v i 0 <<< 5) + ((attr v i 1 &&& 0x0F) <<< 13)
  let w := spriteWidth v i
  let row := ((y : Int) - spriteY v i).toNat
  let row := if (attr v i 6).testBit 1 then spriteHeight v i - 1 - row else row
  let px := if (attr v i 6).testBit 0 then w - 1 - sx else sx
  if deep v i then byte (data + row * w + px)
  else if px % 2 = 0 then byte (data + row * (w / 2) + px / 2) / 16
  else byte (data + row * (w / 2) + px / 2) % 16

/-- Sprite `i` draws a pixel of colour `c` on column `x` of the line `y`: it is on the line, the colour is not 0, and the
budget pays for everything up to it. -/
def draws (cfg : Params) (v : Video) (y i x c : Nat) : Prop :=
  onLine v y i = true ∧ x < cfg.screenWidth ∧ c ≠ 0 ∧
  ∃ sx, sx < spriteWidth v i ∧ column v i sx = x ∧ c = spriteColour v y i sx ∧
    spritesCost cfg v y i + cfg.spriteLookupCost + pixelsCost cfg v i (sx + 1) ≤ cfg.spriteBudget

/-- The effective line of a scan line: less the front porch of the output mode. -/
def effective (cfg : Params) (v : Video) (y : Nat) : Int :=
  (y : Int) - (if v.composer.video.getLsbD 1 then cfg.frontPorchNtsc else cfg.frontPorchVga)

end Sys2Proof.Claims

open Sys2Proof.Claims

/-- For every instruction, with every value of every operand byte, and whatever bytes follow: decoding its encoding
gives exactly that instruction, and exactly the bytes that follow are left. -/
def Obligations.DecodeEncodeRoundTrip : Prop :=
  ∀ (i : Instr) (rest : List Byte), decode (encode i ++ rest) = .ok i rest

/-- Whenever the decoder reads an instruction from some bytes and leaves a rest, the encoding of the instruction
followed by the rest is those bytes: no two encodings stand for one instruction, and no operand bit is dropped. -/
def Obligations.EncodeDecodeRoundTrip : Prop :=
  ∀ (bytes : List Byte) (i : Instr) (rest : List Byte), decode bytes = .ok i rest → encode i ++ rest = bytes

/-- Bytes decode to an instruction exactly when there is an opcode byte and at least as many bytes as that opcode
needs, 1 to 3; no opcode is refused. What each of the 256 opcode values needs is written out in lengths, and is the
column Bytes of R145 for its addressing mode. The digit of RMBn, SMBn, BBRn and BBSn is the bit number, in bits 6:4 of
the opcode. -/
def Obligations.DecoderRefusesOnlyShortBytes : Prop :=
  (∀ bytes : List Byte, (∃ i rest, decode bytes = .ok i rest) ↔
    ∃ op tail, bytes = op :: tail ∧ opcodeLength op ≤ bytes.length ∧ 1 ≤ opcodeLength op ∧ opcodeLength op ≤ 3) ∧
  (∀ op : Byte, opcodeLength op = lengths.getD op.toNat 0 ∧ (opcodeMode op).bytes = lengths.getD op.toNat 0) ∧
  (∀ z r : Byte,
    encode (.rmb0 z) = [0x07, z] ∧ encode (.smb0 z) = [0x87, z] ∧
    encode (.bbr0 z r) = [0x0F, z, r] ∧ encode (.bbs0 z r) = [0x8F, z, r] ∧
    encode (.rmb1 z) = [0x17, z] ∧ encode (.smb1 z) = [0x97, z] ∧
    encode (.bbr1 z r) = [0x1F, z, r] ∧ encode (.bbs1 z r) = [0x9F, z, r] ∧
    encode (.rmb2 z) = [0x27, z] ∧ encode (.smb2 z) = [0xA7, z] ∧
    encode (.bbr2 z r) = [0x2F, z, r] ∧ encode (.bbs2 z r) = [0xAF, z, r] ∧
    encode (.rmb3 z) = [0x37, z] ∧ encode (.smb3 z) = [0xB7, z] ∧
    encode (.bbr3 z r) = [0x3F, z, r] ∧ encode (.bbs3 z r) = [0xBF, z, r] ∧
    encode (.rmb4 z) = [0x47, z] ∧ encode (.smb4 z) = [0xC7, z] ∧
    encode (.bbr4 z r) = [0x4F, z, r] ∧ encode (.bbs4 z r) = [0xCF, z, r] ∧
    encode (.rmb5 z) = [0x57, z] ∧ encode (.smb5 z) = [0xD7, z] ∧
    encode (.bbr5 z r) = [0x5F, z, r] ∧ encode (.bbs5 z r) = [0xDF, z, r] ∧
    encode (.rmb6 z) = [0x67, z] ∧ encode (.smb6 z) = [0xE7, z] ∧
    encode (.bbr6 z r) = [0x6F, z, r] ∧ encode (.bbs6 z r) = [0xEF, z, r] ∧
    encode (.rmb7 z) = [0x77, z] ∧ encode (.smb7 z) = [0xF7, z] ∧
    encode (.bbr7 z r) = [0x7F, z, r] ∧ encode (.bbs7 z r) = [0xFF, z, r])

/-- Words written out byte by byte from the tables of the spec (LDA #$0A; STA $9F23; JSR $0920; BBR3 $10,+5; BNE -7;
an unmapped opcode; BRK) decode to those instructions, low operand byte first. -/
def Obligations.WrittenWordsDecode : Prop :=
  decode [0xA9, 0x0A] = .ok (.ldaImm 0x0A) [] ∧
  decode [0x8D, 0x23, 0x9F] = .ok (.staAbs 0x9F23) [] ∧
  decode [0x20, 0x20, 0x09] = .ok (.jsr 0x0920) [] ∧
  decode [0x3F, 0x10, 0x05] = .ok (.bbr3 0x10 0x05) [] ∧
  decode [0xD0, 0xF9] = .ok (.bne 0xF9) [] ∧
  decode [0x42] = .ok .unmapped42 [] ∧
  decode [0x00] = .ok .brk []

/-- When the machine is ready (legal configuration, empty host script, no NMI, no IRQ to take, neither waiting nor
stopped), runs the reference schedule, and the bytes of cells at PC, PC+1, ... (none in the I/O page) decode to an
instruction i, then step is exec of i at the state whose PC stands after the instruction and whose ICOUNT is one more,
followed by as many video steps as cycles were charged. -/
def Obligations.StepRunsDecodedInstruction : Prop :=
  ∀ (s : State) (i : Instr), s.ready = true → s.cfg.schedule = .machineTick →
    (∀ k, k < (encode i).length → region (s.cpu.pc + BitVec.ofNat 16 k) ≠ .io) →
    decode ((List.range (encode i).length).map fun k => s.cell (s.cpu.pc + BitVec.ofNat 16 k)) = .ok i [] →
    step s =
      match exec i { s with cpu := { s.cpu with
          pc := s.cpu.pc + BitVec.ofNat 16 (encode i).length, icount := s.cpu.icount + 1 } } with
      | .next t => .next { t with video := t.video.steps t.cfg (t.cpu.cycles - s.cpu.cycles).toNat }
      | .fault e => .fault e
      | .refused e => .refused e

/-- If the parameters are legal (bank counts in range, WAIT_STEP_CYCLES and the CPU clock at least 1) every step
answers a next state, whatever the state, the bytes at PC, the inputs and the script of the host; otherwise it is
refused by the name invalidConfiguration. The refusal, its name and that it covers a CPU clock of 0 are the choice of
the model (log 20, DEDUCED); U19 speaks of bank counts only. -/
def Obligations.StepAnswersNextExactlyOnLegalParameters : Prop :=
  ∀ s : State, (s.cfg.wellFormed = true → ∃ t, step s = .next t) ∧
    (s.cfg.wellFormed = false → step s = .refused .invalidConfiguration)

/-- For every instruction, every operand and every state, exec answers a next state in which the ROM, both bank
registers, the parameters, the input pins, the script of the host, the instruction count, the execution goal and the
frame buffer are as before. -/
def Obligations.NoInstructionTouchesWhatThePortsOwn : Prop :=
  ∀ (i : Instr) (s : State), ∃ t, exec i s = .next t ∧
    t.bus.rom = s.bus.rom ∧ t.bus.ramBank = s.bus.ramBank ∧ t.bus.romBank = s.bus.romBank ∧ t.cfg = s.cfg ∧
    t.pins = s.pins ∧ t.script = s.script ∧ t.cpu.icount = s.cpu.icount ∧ t.cpu.goal = s.cpu.goal ∧
    t.video.fb = s.video.fb

/-- For every instruction but opcode $DB configured to stop the CPU: CYCLES grows, modulo 2^32, by the base cost of
the opcode plus an extra of at most 2 (page crossing, taken branch; for a branch this rests on log 32, DESIGN CHOICE,
where PENALTY lists it) plus at most DECIMAL_EXTRA_CYCLE. By default the base cost of each of the 256 opcode values is
the one written out in costs, the opcodes that pay one cycle for a crossed page are those in paying and no other, and
the decimal extra is 0, so that the charge is costs and at most 2 more. -/
def Obligations.CyclesChargedByEveryInstruction : Prop :=
  (∀ (i : Instr) (op : Byte) (rest : List Byte) (s t : State), encode i = op :: rest →
    (op = 0xDB → s.cfg.opcodeDb = .nop) → exec i s = .next t →
    ∃ extra, extra ≤ 2 + s.cfg.decimalExtraCycle ∧ t.cpu.cycles = cyclesAfter s op.toNat extra) ∧
  (∀ op : Byte, Params.default.baseCost.getD op.toNat 0 = costs.getD op.toNat 0 ∧
    (op.toNat ∈ Params.default.penalty ↔ op.toNat ∈ paying)) ∧
  (∀ (i : Instr) (op : Byte) (rest : List Byte) (s t : State), encode i = op :: rest → s.cfg = Params.default →
    exec i s = .next t → ∃ extra, extra ≤ 2 ∧
      t.cpu.cycles = s.cpu.cycles + BitVec.ofNat 32 (costs.getD op.toNat 0 + extra))

/-- LDA in each of its nine forms completes: A is the operand, N its bit 7, Z whether it is 0; no other register,
flag, memory byte or part of the machine changes, but what reading a device register does; CYCLES grows by the base
cost and one more for a crossed page where the opcode pays it. -/
def Obligations.LoadAccumulator : Prop :=
  (∀ v : Byte, loads (fun v c => { c with a := v }) (.ldaImm v) 0xA9 (.imm v)) ∧
  (∀ z : Byte, loads (fun v c => { c with a := v }) (.ldaZp z) 0xA5 (.mem (.zp z))) ∧
  (∀ z : Byte, loads (fun v c => { c with a := v }) (.ldaZpX z) 0xB5 (.mem (.zpX z))) ∧
  (∀ a : Word, loads (fun v c => { c with a := v }) (.ldaAbs a) 0xAD (.mem (.abs a))) ∧
  (∀ a : Word, loads (fun v c => { c with a := v }) (.ldaAbsX a) 0xBD (.mem (.absX a))) ∧
  (∀ a : Word, loads (fun v c => { c with a := v }) (.ldaAbsY a) 0xB9 (.mem (.absY a))) ∧
  (∀ z : Byte, loads (fun v c => { c with a := v }) (.ldaIndX z) 0xA1 (.mem (.indX z))) ∧
  (∀ z : Byte, loads (fun v c => { c with a := v }) (.ldaIndY z) 0xB1 (.mem (.indY z))) ∧
  (∀ z : Byte, loads (fun v c => { c with a := v }) (.ldaIzp z) 0xB2 (.mem (.izp z)))

/-- LDX and LDY in each of their five forms complete: the index register is the operand, N its bit 7, Z whether it is
0; nothing else changes but what reading a device register does, and CYCLES. -/
def Obligations.LoadIndexRegisters : Prop :=
  (∀ v : Byte, loads (fun v c => { c with x := v }) (.ldxImm v) 0xA2 (.imm v)) ∧
  (∀ z : Byte, loads (fun v c => { c with x := v }) (.ldxZp z) 0xA6 (.mem (.zp z))) ∧
  (∀ z : Byte, loads (fun v c => { c with x := v }) (.ldxZpY z) 0xB6 (.mem (.zpY z))) ∧
  (∀ a : Word, loads (fun v c => { c with x := v }) (.ldxAbs a) 0xAE (.mem (.abs a))) ∧
  (∀ a : Word, loads (fun v c => { c with x := v }) (.ldxAbsY a) 0xBE (.mem (.absY a))) ∧
  (∀ v : Byte, loads (fun v c => { c with y := v }) (.ldyImm v) 0xA0 (.imm v)) ∧
  (∀ z : Byte, loads (fun v c => { c with y := v }) (.ldyZp z) 0xA4 (.mem (.zp z))) ∧
  (∀ z : Byte, loads (fun v c => { c with y := v }) (.ldyZpX z) 0xB4 (.mem (.zpX z))) ∧
  (∀ a : Word, loads (fun v c => { c with y := v }) (.ldyAbs a) 0xAC (.mem (.abs a))) ∧
  (∀ a : Word, loads (fun v c => { c with y := v }) (.ldyAbsX a) 0xBC (.mem (.absX a)))

/-- STA, STX, STY and STZ in every form complete: the byte (A, X, Y or 0) is written once at the address of the mode;
a RAM cell takes it and every other cell reads as before; a ROM address changes nothing; a device address changes no
cell; no flag and no register but CYCLES changes. -/
def Obligations.StoresWriteOneByte : Prop :=
  (∀ z : Byte, stores (fun c => c.a) (.staZp z) 0x85 (.zp z)) ∧
  (∀ z : Byte, stores (fun c => c.a) (.staZpX z) 0x95 (.zpX z)) ∧
  (∀ a : Word, stores (fun c => c.a) (.staAbs a) 0x8D (.abs a)) ∧
  (∀ a : Word, stores (fun c => c.a) (.staAbsX a) 0x9D (.absX a)) ∧
  (∀ a : Word, stores (fun c => c.a) (.staAbsY a) 0x99 (.absY a)) ∧
  (∀ z : Byte, stores (fun c => c.a) (.staIndX z) 0x81 (.indX z)) ∧
  (∀ z : Byte, stores (fun c => c.a) (.staIndY z) 0x91 (.indY z)) ∧
  (∀ z : Byte, stores (fun c => c.a) (.staIzp z) 0x92 (.izp z)) ∧
  (∀ z : Byte, stores (fun c => c.x) (.stxZp z) 0x86 (.zp z)) ∧
  (∀ z : Byte, stores (fun c => c.x) (.stxZpY z) 0x96 (.zpY z)) ∧
  (∀ a : Word, stores (fun c => c.x) (.stxAbs a) 0x8E (.abs a)) ∧
  (∀ z : Byte, stores (fun c => c.y) (.styZp z) 0x84 (.zp z)) ∧
  (∀ z : Byte, stores (fun c => c.y) (.styZpX z) 0x94 (.zpX z)) ∧
  (∀ a : Word, stores (fun c => c.y) (.styAbs a) 0x8C (.abs a)) ∧
  (∀ z : Byte, stores (fun _ => 0) (.stzZp z) 0x64 (.zp z)) ∧
  (∀ z : Byte, stores (fun _ => 0) (.stzZpX z) 0x74 (.zpX z)) ∧
  (∀ a : Word, stores (fun _ => 0) (.stzAbs a) 0x9C (.abs a)) ∧
  (∀ a : Word, stores (fun _ => 0) (.stzAbsX a) 0x9E (.absX a))

/-- ADC in each form completes. Binary mode: A is the sum with carry modulo 256, C whether it reached 256, V whether
the signed sum leaves -128..127, N and Z from A. Decimal mode with decimal digits: A is the BCD sum modulo 100, C
whether it reached 100, N and Z from A; V and sums of other digits are not said. No other register, flag or memory
byte changes. -/
def Obligations.AddWithCarry : Prop :=
  (∀ v : Byte, adds (.adcImm v) 0x69 (.imm v)) ∧
  (∀ z : Byte, adds (.adcZp z) 0x65 (.mem (.zp z))) ∧
  (∀ z : Byte, adds (.adcZpX z) 0x75 (.mem (.zpX z))) ∧
  (∀ a : Word, adds (.adcAbs a) 0x6D (.mem (.abs a))) ∧
  (∀ a : Word, adds (.adcAbsX a) 0x7D (.mem (.absX a))) ∧
  (∀ a : Word, adds (.adcAbsY a) 0x79 (.mem (.absY a))) ∧
  (∀ z : Byte, adds (.adcIndX z) 0x61 (.mem (.indX z))) ∧
  (∀ z : Byte, adds (.adcIndY z) 0x71 (.mem (.indY z))) ∧
  (∀ z : Byte, adds (.adcIzp z) 0x72 (.mem (.izp z)))

/-- SBC in each form completes. Binary mode: A is A - v - (1 - C) modulo 256, C whether no borrow was needed, V
whether the signed difference leaves -128..127, N and Z from A. Decimal mode with decimal digits: A is the BCD
difference modulo 100, C whether no borrow was needed, N and Z from A; V and other digits are not said. No other
register, flag or memory byte changes. -/
def Obligations.SubtractWithBorrow : Prop :=
  (∀ v : Byte, subtracts (.sbcImm v) 0xE9 (.imm v)) ∧
  (∀ z : Byte, subtracts (.sbcZp z) 0xE5 (.mem (.zp z))) ∧
  (∀ z : Byte, subtracts (.sbcZpX z) 0xF5 (.mem (.zpX z))) ∧
  (∀ a : Word, subtracts (.sbcAbs a) 0xED (.mem (.abs a))) ∧
  (∀ a : Word, subtracts (.sbcAbsX a) 0xFD (.mem (.absX a))) ∧
  (∀ a : Word, subtracts (.sbcAbsY a) 0xF9 (.mem (.absY a))) ∧
  (∀ z : Byte, subtracts (.sbcIndX z) 0xE1 (.mem (.indX z))) ∧
  (∀ z : Byte, subtracts (.sbcIndY z) 0xF1 (.mem (.indY z))) ∧
  (∀ z : Byte, subtracts (.sbcIzp z) 0xF2 (.mem (.izp z)))

/-- AND, ORA and EOR in each of their nine forms complete: A is the AND, OR or exclusive OR of A with the operand, N
and Z follow the new A; nothing else changes but what reading a device register does, and CYCLES. -/
def Obligations.LogicalCombinations : Prop :=
  (∀ v : Byte, combines (fun a v => a &&& v) (.andImm v) 0x29 (.imm v)) ∧
  (∀ z : Byte, combines (fun a v => a &&& v) (.andZp z) 0x25 (.mem (.zp z))) ∧
  (∀ z : Byte, combines (fun a v => a &&& v) (.andZpX z) 0x35 (.mem (.zpX z))) ∧
  (∀ a : Word, combines (fun a v => a &&& v) (.andAbs a) 0x2D (.mem (.abs a))) ∧
  (∀ a : Word, combines (fun a v => a &&& v) (.andAbsX a) 0x3D (.mem (.absX a))) ∧
  (∀ a : Word, combines (fun a v => a &&& v) (.andAbsY a) 0x39 (.mem (.absY a))) ∧
  (∀ z : Byte, combines (fun a v => a &&& v) (.andIndX z) 0x21 (.mem (.indX z))) ∧
  (∀ z : Byte, combines (fun a v => a &&& v) (.andIndY z) 0x31 (.mem (.indY z))) ∧
  (∀ z : Byte, combines (fun a v => a &&& v) (.andIzp z) 0x32 (.mem (.izp z))) ∧
  (∀ v : Byte, combines (fun a v => a ||| v) (.oraImm v) 0x09 (.imm v)) ∧
  (∀ z : Byte, combines (fun a v => a ||| v) (.oraZp z) 0x05 (.mem (.zp z))) ∧
  (∀ z : Byte, combines (fun a v => a ||| v) (.oraZpX z) 0x15 (.mem (.zpX z))) ∧
  (∀ a : Word, combines (fun a v => a ||| v) (.oraAbs a) 0x0D (.mem (.abs a))) ∧
  (∀ a : Word, combines (fun a v => a ||| v) (.oraAbsX a) 0x1D (.mem (.absX a))) ∧
  (∀ a : Word, combines (fun a v => a ||| v) (.oraAbsY a) 0x19 (.mem (.absY a))) ∧
  (∀ z : Byte, combines (fun a v => a ||| v) (.oraIndX z) 0x01 (.mem (.indX z))) ∧
  (∀ z : Byte, combines (fun a v => a ||| v) (.oraIndY z) 0x11 (.mem (.indY z))) ∧
  (∀ z : Byte, combines (fun a v => a ||| v) (.oraIzp z) 0x12 (.mem (.izp z))) ∧
  (∀ v : Byte, combines (fun a v => a ^^^ v) (.eorImm v) 0x49 (.imm v)) ∧
  (∀ z : Byte, combines (fun a v => a ^^^ v) (.eorZp z) 0x45 (.mem (.zp z))) ∧
  (∀ z : Byte, combines (fun a v => a ^^^ v) (.eorZpX z) 0x55 (.mem (.zpX z))) ∧
  (∀ a : Word, combines (fun a v => a ^^^ v) (.eorAbs a) 0x4D (.mem (.abs a))) ∧
  (∀ a : Word, combines (fun a v => a ^^^ v) (.eorAbsX a) 0x5D (.mem (.absX a))) ∧
  (∀ a : Word, combines (fun a v => a ^^^ v) (.eorAbsY a) 0x59 (.mem (.absY a))) ∧
  (∀ z : Byte, combines (fun a v => a ^^^ v) (.eorIndX z) 0x41 (.mem (.indX z))) ∧
  (∀ z : Byte, combines (fun a v => a ^^^ v) (.eorIndY z) 0x51 (.mem (.indY z))) ∧
  (∀ z : Byte, combines (fun a v => a ^^^ v) (.eorIzp z) 0x52 (.mem (.izp z)))

/-- CMP, CPX and CPY in every form complete: C is whether the register is at least the operand as unsigned numbers, Z
whether they are equal, N bit 7 of the difference modulo 256; no register, no other flag and no memory byte changes
but CYCLES and what reading a device register does. -/
def Obligations.ComparesSetCarryZeroNegative : Prop :=
  (∀ v : Byte, compares Cpu.a (.cmpImm v) 0xC9 (.imm v)) ∧
  (∀ z : Byte, compares Cpu.a (.cmpZp z) 0xC5 (.mem (.zp z))) ∧
  (∀ z : Byte, compares Cpu.a (.cmpZpX z) 0xD5 (.mem (.zpX z))) ∧
  (∀ a : Word, compares Cpu.a (.cmpAbs a) 0xCD (.mem (.abs a))) ∧
  (∀ a : Word, compares Cpu.a (.cmpAbsX a) 0xDD (.mem (.absX a))) ∧
  (∀ a : Word, compares Cpu.a (.cmpAbsY a) 0xD9 (.mem (.absY a))) ∧
  (∀ z : Byte, compares Cpu.a (.cmpIndX z) 0xC1 (.mem (.indX z))) ∧
  (∀ z : Byte, compares Cpu.a (.cmpIndY z) 0xD1 (.mem (.indY z))) ∧
  (∀ z : Byte, compares Cpu.a (.cmpIzp z) 0xD2 (.mem (.izp z))) ∧
  (∀ v : Byte, compares Cpu.x (.cpxImm v) 0xE0 (.imm v)) ∧
  (∀ z : Byte, compares Cpu.x (.cpxZp z) 0xE4 (.mem (.zp z))) ∧
  (∀ a : Word, compares Cpu.x (.cpxAbs a) 0xEC (.mem (.abs a))) ∧
  (∀ v : Byte, compares Cpu.y (.cpyImm v) 0xC0 (.imm v)) ∧
  (∀ z : Byte, compares Cpu.y (.cpyZp z) 0xC4 (.mem (.zp z))) ∧
  (∀ a : Word, compares Cpu.y (.cpyAbs a) 0xCC (.mem (.abs a)))

/-- INC and DEC in each form complete: the byte read at the address of the mode (or A) goes up or down by 1 modulo
256, the result is written there once, N and Z follow it, C and V stay; at a RAM address no other cell and no other
part of the machine changes. -/
def Obligations.IncrementDecrement : Prop :=
  (modifiesA (incremented 1) .incAcc 0x1A) ∧
  (∀ z : Byte, modifies (incremented 1) (.incZp z) 0xE6 (.zp z)) ∧
  (∀ z : Byte, modifies (incremented 1) (.incZpX z) 0xF6 (.zpX z)) ∧
  (∀ a : Word, modifies (incremented 1) (.incAbs a) 0xEE (.abs a)) ∧
  (∀ a : Word, modifies (incremented 1) (.incAbsX a) 0xFE (.absX a)) ∧
  (modifiesA (incremented 255) .decAcc 0x3A) ∧
  (∀ z : Byte, modifies (incremented 255) (.decZp z) 0xC6 (.zp z)) ∧
  (∀ z : Byte, modifies (incremented 255) (.decZpX z) 0xD6 (.zpX z)) ∧
  (∀ a : Word, modifies (incremented 255) (.decAbs a) 0xCE (.abs a)) ∧
  (∀ a : Word, modifies (incremented 255) (.decAbsX a) 0xDE (.absX a))

/-- ASL, LSR, ROL and ROR in each form complete: the byte (or A) is doubled or halved, the rotates bring the old carry
in at the free end, the bit that leaves goes to C, N and Z follow the result, V stays; one read and one write at the
address of the mode, and at a RAM address nothing else changes. -/
def Obligations.ShiftsAndRotates : Prop :=
  (modifiesA doubled .aslAcc 0x0A) ∧
  (∀ z : Byte, modifies doubled (.aslZp z) 0x06 (.zp z)) ∧
  (∀ z : Byte, modifies doubled (.aslZpX z) 0x16 (.zpX z)) ∧
  (∀ a : Word, modifies doubled (.aslAbs a) 0x0E (.abs a)) ∧
  (∀ a : Word, modifies doubled (.aslAbsX a) 0x1E (.absX a)) ∧
  (modifiesA halved .lsrAcc 0x4A) ∧
  (∀ z : Byte, modifies halved (.lsrZp z) 0x46 (.zp z)) ∧
  (∀ z : Byte, modifies halved (.lsrZpX z) 0x56 (.zpX z)) ∧
  (∀ a : Word, modifies halved (.lsrAbs a) 0x4E (.abs a)) ∧
  (∀ a : Word, modifies halved (.lsrAbsX a) 0x5E (.absX a)) ∧
  (modifiesA rotatedLeft .rolAcc 0x2A) ∧
  (∀ z : Byte, modifies rotatedLeft (.rolZp z) 0x26 (.zp z)) ∧
  (∀ z : Byte, modifies rotatedLeft (.rolZpX z) 0x36 (.zpX z)) ∧
  (∀ a : Word, modifies rotatedLeft (.rolAbs a) 0x2E (.abs a)) ∧
  (∀ a : Word, modifies rotatedLeft (.rolAbsX a) 0x3E (.absX a)) ∧
  (modifiesA rotatedRight .rorAcc 0x6A) ∧
  (∀ z : Byte, modifies rotatedRight (.rorZp z) 0x66 (.zp z)) ∧
  (∀ z : Byte, modifies rotatedRight (.rorZpX z) 0x76 (.zpX z)) ∧
  (∀ a : Word, modifies rotatedRight (.rorAbs a) 0x6E (.abs a)) ∧
  (∀ a : Word, modifies rotatedRight (.rorAbsX a) 0x7E (.absX a))

/-- INX, INY, DEX and DEY complete: X or Y goes up or down by 1 modulo 256, N and Z follow it, and nothing else
changes but CYCLES. Each is the one opcode byte given, at a cost of 2 cycles by default. -/
def Obligations.IndexIncrementDecrement : Prop :=
  oneByte .inx 0xE8 2 ∧ changesCpu .inx 0xE8 (fun c => { c with x := c.x + 1, p := nzOf (c.x + 1) c.p }) ∧
  oneByte .iny 0xC8 2 ∧ changesCpu .iny 0xC8 (fun c => { c with y := c.y + 1, p := nzOf (c.y + 1) c.p }) ∧
  oneByte .dex 0xCA 2 ∧ changesCpu .dex 0xCA (fun c => { c with x := c.x - 1, p := nzOf (c.x - 1) c.p }) ∧
  oneByte .dey 0x88 2 ∧ changesCpu .dey 0x88 (fun c => { c with y := c.y - 1, p := nzOf (c.y - 1) c.p })

/-- BCC, BCS, BEQ, BNE, BMI, BPL, BVC, BVS and BRA complete: taken exactly when their flag says (BRA always), PC goes
to the address of the next instruction plus the signed offset modulo 2^16, else it stays; base cost if not taken, 1
more if taken, 2 more if taken into another page; no flag, no register and no memory changes. That a PENALTY table
which lists a branch opcode adds nothing is the choice of the model (log 32, DESIGN CHOICE). -/
def Obligations.ConditionalBranches : Prop :=
  (branches .bcc 0x90 (fun s => !s.cpu.p.c)) ∧
  (branches .bcs 0xB0 (fun s => s.cpu.p.c)) ∧
  (branches .beq 0xF0 (fun s => s.cpu.p.z)) ∧
  (branches .bne 0xD0 (fun s => !s.cpu.p.z)) ∧
  (branches .bmi 0x30 (fun s => s.cpu.p.n)) ∧
  (branches .bpl 0x10 (fun s => !s.cpu.p.n)) ∧
  (branches .bvc 0x50 (fun s => !s.cpu.p.v)) ∧
  (branches .bvs 0x70 (fun s => s.cpu.p.v)) ∧
  (branches .bra 0x80 (fun _ => true))

/-- BBRn and BBSn complete for every n: they read one zero-page byte and branch when its bit n is clear (BBR) or set
(BBS), with the target and cycles of any branch; nothing but PC and CYCLES changes. That a PENALTY table which lists
one of these opcodes adds nothing is the choice of the model (log 32, DESIGN CHOICE). -/
def Obligations.BitBranches : Prop :=
  (∀ z : Byte, branches (.bbr0 z) 0x0F (fun s => !(s.bus.ram.read z.toNat).getLsbD 0)) ∧
  (∀ z : Byte, branches (.bbr1 z) 0x1F (fun s => !(s.bus.ram.read z.toNat).getLsbD 1)) ∧
  (∀ z : Byte, branches (.bbr2 z) 0x2F (fun s => !(s.bus.ram.read z.toNat).getLsbD 2)) ∧
  (∀ z : Byte, branches (.bbr3 z) 0x3F (fun s => !(s.bus.ram.read z.toNat).getLsbD 3)) ∧
  (∀ z : Byte, branches (.bbr4 z) 0x4F (fun s => !(s.bus.ram.read z.toNat).getLsbD 4)) ∧
  (∀ z : Byte, branches (.bbr5 z) 0x5F (fun s => !(s.bus.ram.read z.toNat).getLsbD 5)) ∧
  (∀ z : Byte, branches (.bbr6 z) 0x6F (fun s => !(s.bus.ram.read z.toNat).getLsbD 6)) ∧
  (∀ z : Byte, branches (.bbr7 z) 0x7F (fun s => !(s.bus.ram.read z.toNat).getLsbD 7)) ∧
  (∀ z : Byte, branches (.bbs0 z) 0x8F (fun s => (s.bus.ram.read z.toNat).getLsbD 0)) ∧
  (∀ z : Byte, branches (.bbs1 z) 0x9F (fun s => (s.bus.ram.read z.toNat).getLsbD 1)) ∧
  (∀ z : Byte, branches (.bbs2 z) 0xAF (fun s => (s.bus.ram.read z.toNat).getLsbD 2)) ∧
  (∀ z : Byte, branches (.bbs3 z) 0xBF (fun s => (s.bus.ram.read z.toNat).getLsbD 3)) ∧
  (∀ z : Byte, branches (.bbs4 z) 0xCF (fun s => (s.bus.ram.read z.toNat).getLsbD 4)) ∧
  (∀ z : Byte, branches (.bbs5 z) 0xDF (fun s => (s.bus.ram.read z.toNat).getLsbD 5)) ∧
  (∀ z : Byte, branches (.bbs6 z) 0xEF (fun s => (s.bus.ram.read z.toNat).getLsbD 6)) ∧
  (∀ z : Byte, branches (.bbs7 z) 0xFF (fun s => (s.bus.ram.read z.toNat).getLsbD 7))

/-- JMP absolute sets PC to its operand. JMP indirect and JMP indexed-indirect read two bytes at the pointer (the
operand, plus X modulo 2^16), low byte first, the second at the next address even across a page; outside the I/O page
only PC and CYCLES change; no flag changes in any form. -/
def Obligations.Jumps : Prop :=
  (∀ a : Word, changesCpu (.jmpAbs a) 0x4C (fun c => { c with pc := a })) ∧
  (∀ a : Word, jumpsThrough (.jmpInd a) 0x6C (fun _ => a)) ∧
  (∀ a : Word, jumpsThrough (.jmpAix a) 0x7C (fun s => BitVec.ofNat 16 (a.toNat + s.cpu.x.toNat)))

/-- JSR completes: the two cells at $0100+SP and below it (SP modulo 256) take the high and the low byte of PC - 1, SP
goes down by 2, PC is the operand; no flag, no other register and no other byte of memory changes. -/
def Obligations.JumpToSubroutine : Prop :=
  ∀ (a : Word) (s : State), ∃ t, exec (.jsr a) s = .next t ∧
    t = { s with cpu := t.cpu, bus := { s.bus with ram := t.bus.ram } } ∧
    (∀ k, t.bus.ram.read k =
      if k = stackSlot s 0 then BitVec.ofNat 8 ((s.cpu.pc - 1).toNat / 256)
      else if k = stackSlot s (-1) then BitVec.ofNat 8 (s.cpu.pc - 1).toNat
      else s.bus.ram.read k) ∧
    t.cpu = { s.cpu with pc := a, sp := s.cpu.sp - 2, cycles := cyclesAfter s 0x20 0 }

/-- RTS completes: SP goes up by 2 modulo 256, PC is the word of the two cells passed (low byte first) plus 1 modulo
2^16; no flag, no other register and no memory changes. -/
def Obligations.ReturnFromSubroutine : Prop :=
  ∀ s : State, exec .rts s = .next { s with cpu := { s.cpu with
    pc := word (s.bus.ram.read (stackSlot s 2)) (s.bus.ram.read (stackSlot s 1)) + 1
    sp := s.cpu.sp + 2, cycles := cyclesAfter s 0x60 0 } }

/-- BRK completes by its own entry: it pushes PC + 1 (the address after the byte that follows the opcode), high byte
first, then the status byte with B set; I is set and D cleared, the other stored flags stay; PC is the word at
$FFFE/$FFFF of the selected ROM bank; the wait latch stays; the cost is the base cost of $00; nothing else changes. -/
def Obligations.BreakEntersTheHandler : Prop :=
  ∀ s : State, ∃ t, exec .brk s = .next t ∧
    entered s t (s.cpu.pc + 1) (statusByte { s.cpu.p with b := true }) { s.cpu.p with i := true, d := false } 0xFFFE ∧
    t.cpu.wait = s.cpu.wait ∧ t.cpu.cycles = cyclesAfter s 0x00 0

/-- RTI completes: SP goes up by 3 modulo 256; the flags are those of the first cell passed (bit 5 has none), PC is
the word of the next two, low byte first; nothing else changes but CYCLES. -/
def Obligations.ReturnFromInterrupt : Prop :=
  ∀ s : State, exec .rti s = .next { s with cpu := { s.cpu with
    p := flagsIn (s.bus.ram.read (stackSlot s 1))
    pc := word (s.bus.ram.read (stackSlot s 3)) (s.bus.ram.read (stackSlot s 2))
    sp := s.cpu.sp + 3, cycles := cyclesAfter s 0x40 0 } }

/-- irq() pushes PC and the status with bit 4 clear and goes through $FFFE; nmi() pushes PC and the status as it is
and goes through $FFFA. Both set I and no other flag (D and the stored B stay), clear the wait latch, charge
INT_ENTRY_CYCLES, and change nothing else: A, X, Y, ICOUNT, VIDEO and all other memory stay. -/
def Obligations.InterruptEntries : Prop :=
  ∀ s : State,
    (entered s (takeTrap .irq s) s.cpu.pc (statusByte { s.cpu.p with b := false }) { s.cpu.p with i := true } 0xFFFE ∧
      (takeTrap .irq s).cpu.wait = false ∧
      (takeTrap .irq s).cpu.cycles = s.cpu.cycles + BitVec.ofNat 32 s.cfg.intEntryCycles) ∧
    (entered s (takeTrap .nmi s) s.cpu.pc (statusByte s.cpu.p) { s.cpu.p with i := true } 0xFFFA ∧
      (takeTrap .nmi s).cpu.wait = false ∧
      (takeTrap .nmi s).cpu.cycles = s.cpu.cycles + BitVec.ofNat 32 s.cfg.intEntryCycles)

/-- After JSR, RTS at once gives the PC after the JSR, SP and the flags as before. After an IRQ entry, RTI gives PC
and SP as before and the flags with B clear; after an NMI, the flags exactly; after BRK, PC one further and the flags
with B set. A, X and Y are as before in each case. -/
def Obligations.ReturnsUndoEntries : Prop :=
  ∀ s : State,
    (∀ a, ∃ t u, exec (.jsr a) s = .next t ∧ exec .rts t = .next u ∧ backAt s u s.cpu.pc s.cpu.p) ∧
    (∃ u, exec .rti (takeTrap .irq s) = .next u ∧ backAt s u s.cpu.pc { s.cpu.p with b := false }) ∧
    (∃ u, exec .rti (takeTrap .nmi s) = .next u ∧ backAt s u s.cpu.pc s.cpu.p) ∧
    (∃ t u, exec .brk s = .next t ∧ exec .rti t = .next u ∧
      backAt s u (s.cpu.pc + 1) { s.cpu.p with b := true })

/-- PHA, PHX, PHY and PHP complete: the cell at $0100 + SP takes A, X, Y or the status byte with bits 4 and 5 set, SP
goes down by 1 modulo 256; every other byte of memory, every flag and every other register is as before. -/
def Obligations.Pushes : Prop :=
  pushes Cpu.a .pha 0x48 ∧ pushes Cpu.x .phx 0xDA ∧ pushes Cpu.y .phy 0x5A ∧
  pushes (fun c => statusByte { c.p with b := true }) .php 0x08

/-- PLA, PLX and PLY complete: SP goes up by 1 modulo 256, the register takes the cell at $0100 + SP, N and Z follow
it. PLP takes all seven stored flags from that cell. Nothing else changes but CYCLES, and no memory at all. -/
def Obligations.Pulls : Prop :=
  pulls (fun v c => { c with a := v, p := nzOf v c.p }) .pla 0x68 ∧
  pulls (fun v c => { c with x := v, p := nzOf v c.p }) .plx 0xFA ∧
  pulls (fun v c => { c with y := v, p := nzOf v c.p }) .ply 0x7A ∧
  pulls (fun v c => { c with p := flagsIn v }) .plp 0x28

/-- After any sequence of pushes SP is the old SP minus their number modulo 256, the cells above SP hold the pushed
bytes newest first (so the 257th push has overwritten the first byte), a cell of the page that no push reached and
every byte outside $0100-$01FF read as before, and nothing else changes. -/
def Obligations.StackWrapsWithinItsPage : Prop :=
  ∀ (bytes : List Byte) (s : State), ∃ t, bytes.foldl (fun s v => push8 v s) s = t ∧
    t = { s with cpu := { s.cpu with sp := t.cpu.sp }, bus := { s.bus with ram := t.bus.ram } } ∧
    t.cpu.sp = s.cpu.sp - BitVec.ofNat 8 bytes.length ∧
    (∀ k, k < 256 → t.bus.ram.read (0x100 + (t.cpu.sp + 1 + BitVec.ofNat 8 k).toNat) =
      if k < bytes.length then bytes.reverse.getD k 0
      else s.bus.ram.read (0x100 + (t.cpu.sp + 1 + BitVec.ofNat 8 k).toNat)) ∧
    (∀ k, k < 0x100 ∨ 0x200 ≤ k → t.bus.ram.read k = s.bus.ram.read k)

/-- CLC, SEC, CLI, SEI, CLD, SED and CLV complete: the one flag they name becomes 0 or 1, and nothing else changes but
CYCLES. Each is the one opcode byte given, at a cost of 2 cycles by default. (Opcodes and flag effects carry
general-knowledge marks there, R315 a decision.) -/
def Obligations.FlagInstructions : Prop :=
  oneByte .clc 0x18 2 ∧ changesCpu .clc 0x18 (fun c => { c with p := { c.p with c := false } }) ∧
  oneByte .sec 0x38 2 ∧ changesCpu .sec 0x38 (fun c => { c with p := { c.p with c := true } }) ∧
  oneByte .cli 0x58 2 ∧ changesCpu .cli 0x58 (fun c => { c with p := { c.p with i := false } }) ∧
  oneByte .sei 0x78 2 ∧ changesCpu .sei 0x78 (fun c => { c with p := { c.p with i := true } }) ∧
  oneByte .cld 0xD8 2 ∧ changesCpu .cld 0xD8 (fun c => { c with p := { c.p with d := false } }) ∧
  oneByte .sed 0xF8 2 ∧ changesCpu .sed 0xF8 (fun c => { c with p := { c.p with d := true } }) ∧
  oneByte .clv 0xB8 2 ∧ changesCpu .clv 0xB8 (fun c => { c with p := { c.p with v := false } })

/-- TAX, TAY, TXA, TYA and TSX complete: the destination takes the source, N and Z follow it. TXS completes: SP takes
X and no flag changes. Nothing else changes but CYCLES. Each is the one opcode byte given, at a cost of 2 cycles by
default. (That TXS sets no flag is general knowledge there, K17.) -/
def Obligations.RegisterTransfers : Prop :=
  oneByte .tax 0xAA 2 ∧ changesCpu .tax 0xAA (fun c => { c with x := c.a, p := nzOf c.a c.p }) ∧
  oneByte .tay 0xA8 2 ∧ changesCpu .tay 0xA8 (fun c => { c with y := c.a, p := nzOf c.a c.p }) ∧
  oneByte .txa 0x8A 2 ∧ changesCpu .txa 0x8A (fun c => { c with a := c.x, p := nzOf c.x c.p }) ∧
  oneByte .tya 0x98 2 ∧ changesCpu .tya 0x98 (fun c => { c with a := c.y, p := nzOf c.y c.p }) ∧
  oneByte .tsx 0xBA 2 ∧ changesCpu .tsx 0xBA (fun c => { c with x := c.sp, p := nzOf c.sp c.p }) ∧
  oneByte .txs 0x9A 2 ∧ changesCpu .txs 0x9A (fun c => { c with sp := c.x })

/-- BIT completes in each form: Z is whether A AND the operand is 0. In the four memory forms N and V become bits 7
and 6 of the operand; the immediate form leaves N and V. No register and no memory changes, but what reading a device
register does, and CYCLES. -/
def Obligations.BitTests : Prop :=
  (∀ z : Byte, testsMemory (.bitZp z) 0x24 (.zp z)) ∧
  (∀ z : Byte, testsMemory (.bitZpX z) 0x34 (.zpX z)) ∧
  (∀ a : Word, testsMemory (.bitAbs a) 0x2C (.abs a)) ∧
  (∀ a : Word, testsMemory (.bitAbsX a) 0x3C (.absX a)) ∧
  (∀ v : Byte, changesCpu (.bitImm v) 0x89 (fun c => { c with p := { c.p with z := decide (c.a &&& v = 0) } }))

/-- TRB and TSB in both forms complete: the byte loses or gains the bits that A has, Z is whether A AND the old byte
is 0, no other flag changes. RMBn and SMBn complete for every n: bit n of a zero-page byte becomes 0 or 1 and no flag
changes. One read and one write at the address; at a RAM address nothing else of the machine changes but CYCLES. -/
def Obligations.BitModifies : Prop :=
  (∀ z : Byte, modifies (tested false) (.trbZp z) 0x14 (.zp z)) ∧
  (∀ a : Word, modifies (tested false) (.trbAbs a) 0x1C (.abs a)) ∧
  (∀ z : Byte, modifies (tested true) (.tsbZp z) 0x04 (.zp z)) ∧
  (∀ a : Word, modifies (tested true) (.tsbAbs a) 0x0C (.abs a)) ∧
  (∀ z : Byte, modifies (bitPut 0 false) (.rmb0 z) 0x07 (.zp z)) ∧
  (∀ z : Byte, modifies (bitPut 1 false) (.rmb1 z) 0x17 (.zp z)) ∧
  (∀ z : Byte, modifies (bitPut 2 false) (.rmb2 z) 0x27 (.zp z)) ∧
  (∀ z : Byte, modifies (bitPut 3 false) (.rmb3 z) 0x37 (.zp z)) ∧
  (∀ z : Byte, modifies (bitPut 4 false) (.rmb4 z) 0x47 (.zp z)) ∧
  (∀ z : Byte, modifies (bitPut 5 false) (.rmb5 z) 0x57 (.zp z)) ∧
  (∀ z : Byte, modifies (bitPut 6 false) (.rmb6 z) 0x67 (.zp z)) ∧
  (∀ z : Byte, modifies (bitPut 7 false) (.rmb7 z) 0x77 (.zp z)) ∧
  (∀ z : Byte, modifies (bitPut 0 true) (.smb0 z) 0x87 (.zp z)) ∧
  (∀ z : Byte, modifies (bitPut 1 true) (.smb1 z) 0x97 (.zp z)) ∧
  (∀ z : Byte, modifies (bitPut 2 true) (.smb2 z) 0xA7 (.zp z)) ∧
  (∀ z : Byte, modifies (bitPut 3 true) (.smb3 z) 0xB7 (.zp z)) ∧
  (∀ z : Byte, modifies (bitPut 4 true) (.smb4 z) 0xC7 (.zp z)) ∧
  (∀ z : Byte, modifies (bitPut 5 true) (.smb5 z) 0xD7 (.zp z)) ∧
  (∀ z : Byte, modifies (bitPut 6 true) (.smb6 z) 0xE7 (.zp z)) ∧
  (∀ z : Byte, modifies (bitPut 7 true) (.smb7 z) 0xF7 (.zp z))

/-- NOP completes at once: exec changes nothing but CYCLES (PC and ICOUNT have moved with the fetch). A ready machine
under the CPU schedule (no video steps) whose byte at PC is $EA steps to the same state with PC and ICOUNT one higher
and CYCLES up by the cost of $EA, which is 2 by default. -/
def Obligations.NoOperation : Prop :=
  oneByte .nop 0xEA 2 ∧ changesCpu .nop 0xEA (fun c => c) ∧
  ∀ s : State, s.ready = true → s.cfg.schedule = .cpuTick → region s.cpu.pc ≠ .io → s.cell s.cpu.pc = 0xEA →
    step s = .next { s with cpu := { s.cpu with
      pc := s.cpu.pc + 1, icount := s.cpu.icount + 1, cycles := cyclesAfter s 0xEA 0 } }

/-- WAI completes: it sets the wait latch and changes nothing else but CYCLES. A CPU that waits with I set, with no
NMI request and an empty script, steps to a state that still waits, with the same PC, ICOUNT, registers, flags, stack
and memory, WAIT_STEP_CYCLES later: IRQ requests do not wake it. Under the reference schedule VIDEO takes that many
video steps (modulo 2^32), and no step under the other two. -/
def Obligations.WaitForInterrupt : Prop :=
  changesCpu .wai 0xCB (fun c => { c with wait := true }) ∧
  ∀ s : State, s.cfg.wellFormed = true → s.script = [] → s.cpu.wait = true → s.cpu.p.i = true →
    s.pins.nmiRequests = 0 → ∃ t, step s = .next t ∧
      t.cpu = { s.cpu with cycles := s.cpu.cycles + BitVec.ofNat 32 s.cfg.waitStepCycles } ∧ t.bus = s.bus ∧
      t.video.vram = s.video.vram ∧ t.emu = s.emu ∧ t.pins = s.pins ∧
      t.video = s.video.steps s.cfg (if s.cfg.schedule = .machineTick then s.cfg.waitStepCycles % 2 ^ 32 else 0)

/-- Each unmapped opcode completes: no register, flag, memory byte or device changes; CYCLES grows by the base cost,
PC skips UNMAPPED_LENGTH - 1 further bytes (none by default). With OPCODE_DB = stop, $DB instead sets STOPPED at 3
cycles and changes nothing else; a stopped CPU fetches nothing and stays stopped through irq() and nmi(); reset()
clears STOPPED. That the skipped bytes are not fetched and touch no device is the choice of the model (log 14,
DEDUCED), and that a length of 0 acts as 1 (log 30, DESIGN CHOICE); so is that both entries still do the rest while
STOPPED stays set (log 15, DEDUCED, beside R342). -/
def Obligations.UnmappedOpcodesDoNothing : Prop :=
  (doesNothing (fun _ => True) .unmapped02 0x02) ∧
  (doesNothing (fun _ => True) .unmapped03 0x03) ∧
  (doesNothing (fun _ => True) .unmapped0B 0x0B) ∧
  (doesNothing (fun _ => True) .unmapped13 0x13) ∧
  (doesNothing (fun _ => True) .unmapped1B 0x1B) ∧
  (doesNothing (fun _ => True) .unmapped22 0x22) ∧
  (doesNothing (fun _ => True) .unmapped23 0x23) ∧
  (doesNothing (fun _ => True) .unmapped2B 0x2B) ∧
  (doesNothing (fun _ => True) .unmapped33 0x33) ∧
  (doesNothing (fun _ => True) .unmapped3B 0x3B) ∧
  (doesNothing (fun _ => True) .unmapped42 0x42) ∧
  (doesNothing (fun _ => True) .unmapped43 0x43) ∧
  (doesNothing (fun _ => True) .unmapped44 0x44) ∧
  (doesNothing (fun _ => True) .unmapped4B 0x4B) ∧
  (doesNothing (fun _ => True) .unmapped53 0x53) ∧
  (doesNothing (fun _ => True) .unmapped54 0x54) ∧
  (doesNothing (fun _ => True) .unmapped5B 0x5B) ∧
  (doesNothing (fun _ => True) .unmapped5C 0x5C) ∧
  (doesNothing (fun _ => True) .unmapped62 0x62) ∧
  (doesNothing (fun _ => True) .unmapped63 0x63) ∧
  (doesNothing (fun _ => True) .unmapped6B 0x6B) ∧
  (doesNothing (fun _ => True) .unmapped73 0x73) ∧
  (doesNothing (fun _ => True) .unmapped7B 0x7B) ∧
  (doesNothing (fun _ => True) .unmapped82 0x82) ∧
  (doesNothing (fun _ => True) .unmapped83 0x83) ∧
  (doesNothing (fun _ => True) .unmapped8B 0x8B) ∧
  (doesNothing (fun _ => True) .unmapped93 0x93) ∧
  (doesNothing (fun _ => True) .unmapped9B 0x9B) ∧
  (doesNothing (fun _ => True) .unmappedA3 0xA3) ∧
  (doesNothing (fun _ => True) .unmappedAB 0xAB) ∧
  (doesNothing (fun _ => True) .unmappedB3 0xB3) ∧
  (doesNothing (fun _ => True) .unmappedBB 0xBB) ∧
  (doesNothing (fun _ => True) .unmappedC2 0xC2) ∧
  (doesNothing (fun _ => True) .unmappedC3 0xC3) ∧
  (doesNothing (fun _ => True) .unmappedD3 0xD3) ∧
  (doesNothing (fun _ => True) .unmappedD4 0xD4) ∧
  (doesNothing (fun _ => True) .unmappedDC 0xDC) ∧
  (doesNothing (fun _ => True) .unmappedE2 0xE2) ∧
  (doesNothing (fun _ => True) .unmappedE3 0xE3) ∧
  (doesNothing (fun _ => True) .unmappedEB 0xEB) ∧
  (doesNothing (fun _ => True) .unmappedF3 0xF3) ∧
  (doesNothing (fun _ => True) .unmappedF4 0xF4) ∧
  (doesNothing (fun _ => True) .unmappedFB 0xFB) ∧
  (doesNothing (fun _ => True) .unmappedFC 0xFC) ∧
  (doesNothing (fun s => s.cfg.opcodeDb = .nop) .unmappedDB 0xDB) ∧
  (∀ s : State, s.cfg.opcodeDb = .stop → exec .unmappedDB s = .next
    { s with cpu := { s.cpu with stopped := true, cycles := s.cpu.cycles + 3 } }) ∧
  (∀ s : State, s.cpu.stopped = true →
    cpuStep s = .next
      { s with cpu := { s.cpu with cycles := s.cpu.cycles + BitVec.ofNat 32 s.cfg.waitStepCycles } } ∧
    (takeTrap .irq s).cpu.stopped = true ∧ (takeTrap .nmi s).cpu.stopped = true ∧
    (cpuReset s).cpu.stopped = false)

/-- The address of each mode: zero page and its indexed forms wrap modulo 256; absolute indexed sums wrap modulo 2^16;
the indirect forms read a little-endian pointer in page zero whose second byte wraps inside page zero. A crossing is
reported exactly when the indexed 16-bit sum leaves the page of its base. -/
def Obligations.EffectiveAddresses : Prop :=
  ∀ (s : State) (z : Byte) (a : Word),
    let zp := fun n : Nat => (s.bus.ram.read (n % 256)).toNat
    ((AddrMode.zp z).address s).toNat = z.toNat ∧
    ((AddrMode.zpX z).address s).toNat = (z.toNat + s.cpu.x.toNat) % 256 ∧
    ((AddrMode.zpY z).address s).toNat = (z.toNat + s.cpu.y.toNat) % 256 ∧
    ((AddrMode.abs a).address s).toNat = a.toNat ∧
    ((AddrMode.absX a).address s).toNat = (a.toNat + s.cpu.x.toNat) % 65536 ∧
    ((AddrMode.absY a).address s).toNat = (a.toNat + s.cpu.y.toNat) % 65536 ∧
    ((AddrMode.izp z).address s).toNat = zp z.toNat + 256 * zp (z.toNat + 1) ∧
    ((AddrMode.indX z).address s).toNat = zp (z.toNat + s.cpu.x.toNat) + 256 * zp (z.toNat + s.cpu.x.toNat + 1) ∧
    ((AddrMode.indY z).address s).toNat = (zp z.toNat + 256 * zp (z.toNat + 1) + s.cpu.y.toNat) % 65536 ∧
    ((AddrMode.absX a).cross s = true ↔ a.toNat % 256 + s.cpu.x.toNat ≥ 256) ∧
    ((AddrMode.absY a).cross s = true ↔ a.toNat % 256 + s.cpu.y.toNat ≥ 256) ∧
    ((AddrMode.indY z).cross s = true ↔ zp z.toNat + s.cpu.y.toNat ≥ 256) ∧
    (AddrMode.zp z).cross s = false ∧ (AddrMode.zpX z).cross s = false ∧ (AddrMode.zpY z).cross s = false ∧
    (AddrMode.abs a).cross s = false ∧ (AddrMode.indX z).cross s = false ∧ (AddrMode.izp z).cross s = false

/-- A read below $9F00 gives the RAM byte, of $A000-$BFFF the byte of the bank taken modulo NUM_RAM_BANKS, from $C000
on the byte of the ROM bank taken modulo NUM_ROM_BANKS, each without any effect; of $9F00-$9FFF what IoRead answers. A
write below $9F00 or to $A000-$BFFF stores the byte in that cell and changes nothing else. -/
def Obligations.BusReadByRegion : Prop :=
  ∀ (a : Word) (v : Byte) (s : State),
    (a.toNat ≤ 0x9EFF → memRead a s = (s.bus.ram.read a.toNat, s) ∧
      ∃ t, memWrite a v s = t ∧ t = { s with bus := { s.bus with ram := t.bus.ram } } ∧
        ∀ k, t.bus.ram.read k = if k = a.toNat then v else s.bus.ram.read k) ∧
    (0x9F00 ≤ a.toNat → a.toNat ≤ 0x9FFF → memRead a s = ioRead (BitVec.ofNat 8 a.toNat) s) ∧
    (0xA000 ≤ a.toNat → a.toNat ≤ 0xBFFF →
      memRead a s = (s.bus.bram.read (s.bus.ramBank % s.cfg.numRamBanks * 0x2000 + (a.toNat - 0xA000)), s) ∧
      ∃ t, memWrite a v s = t ∧ t = { s with bus := { s.bus with bram := t.bus.bram } } ∧
        ∀ k, t.bus.bram.read k = if k = s.bus.ramBank % s.cfg.numRamBanks * 0x2000 + (a.toNat - 0xA000) then v
          else s.bus.bram.read k) ∧
    (0xC000 ≤ a.toNat → memRead a s =
      (s.bus.rom.read (s.bus.romBank.toNat % s.cfg.numRomBanks * 0x4000 + (a.toNat - 0xC000)), s))

/-- The Null tail $9FC0-$9FFF, the LCD stub $9F40-$9F5F and the RTC stub $9F80-$9F9F read 0, the mouse stub
$9FA0-$9FAF reads $FF; a read changes nothing and neither does a write. A read of $C000-$FFFF indexes the ROM by the
reduced bank; a write there changes nothing, and a store instruction to such an address completes with its normal
cycles and no other change. (The ranges of Null, LCD and RTC are decision D25 of the spec, the zeros of the stubs and
their ignored writes D26.) -/
def Obligations.WritesThatAreIgnored : Prop :=
  ∀ (a : Word) (v : Byte) (s : State),
    (0x9FC0 ≤ a.toNat → a.toNat ≤ 0x9FFF → memRead a s = (0, s) ∧ memWrite a v s = s) ∧
    (0x9F40 ≤ a.toNat → a.toNat ≤ 0x9F5F → memRead a s = (0, s) ∧ memWrite a v s = s) ∧
    (0x9F80 ≤ a.toNat → a.toNat ≤ 0x9F9F → memRead a s = (0, s) ∧ memWrite a v s = s) ∧
    (0x9FA0 ≤ a.toNat → a.toNat ≤ 0x9FAF → memRead a s = (0xFF, s) ∧ memWrite a v s = s) ∧
    (0xC000 ≤ a.toNat →
      (memRead a s).1 = s.bus.rom.read (s.bus.romBank.toNat % s.cfg.numRomBanks * 0x4000 + (a.toNat - 0xC000)) ∧
      memWrite a v s = s ∧ changesNothing (.staAbs a) 0x8D s ∧ changesNothing (.stxAbs a) 0x8E s ∧
      changesNothing (.styAbs a) 0x8C s ∧ changesNothing (.stzAbs a) 0x9C s)

/-- With at least one bank: a byte written through bank register value b reads back through every value congruent to b
modulo NUM_RAM_BANKS, and a later write through a value that is not congruent leaves it alone. The register itself
keeps what was written, to its width. -/
def Obligations.BanksAreReducedModuloTheirCount : Prop :=
  ∀ (s : State) (a : Word) (v w : Byte) (b c d : Nat), 1 ≤ s.cfg.numRamBanks → 0xA000 ≤ a.toNat → a.toNat ≤ 0xBFFF →
    (∀ n, (setRamBank n s).bus.ramBank = n % 2 ^ s.cfg.ramBankRegWidth) ∧
    (b % 2 ^ s.cfg.ramBankRegWidth % s.cfg.numRamBanks = d % 2 ^ s.cfg.ramBankRegWidth % s.cfg.numRamBanks →
      (memRead a (setRamBank d (memWrite a v (setRamBank b s)))).1 = v) ∧
    (b % 2 ^ s.cfg.ramBankRegWidth % s.cfg.numRamBanks ≠ c % 2 ^ s.cfg.ramBankRegWidth % s.cfg.numRamBanks →
      (memRead a (setRamBank b (memWrite a w (setRamBank c (memWrite a v (setRamBank b s)))))).1 = v)

/-- A read of any address but $9F23, $9F24 and the external ones leaves the state as it was. An external address
reaches the device and register that routed gives (audio $9F00-$9F1F, PCM $9F3B-$9F3D, SPI $9F3E-$9F3F, VIA 1 and 2
$9F60-$9F7F); a read or write there changes nothing but the record of external accesses, by one entry, newest first:
the record is the choice of the model (log 12, DESIGN CHOICE). With the stubs on, a device other than the two VIAs
reads 0 (log 11), and so does its debug read, which is the choice of the model (log 29, DESIGN CHOICE). For every
other address DebugRead, given the bank that is selected, answers the byte that the read answers, the data ports
included. -/
def Obligations.OnlyPortsAndDevicesReactToReads : Prop :=
  ∀ (a : Word) (v : Byte) (s : State),
    (a ≠ 0x9F23 → a ≠ 0x9F24 → routed a = none → (memRead a s).2 = s) ∧
    (∀ dev reg, routed a = some (dev, reg) →
      (memRead a s).2 = { s with ext := .read dev reg :: s.ext } ∧
      memWrite a v s = { s with ext := .write dev reg v :: s.ext } ∧
      (s.cfg.extStubs = true → dev ≠ .via1 → dev ≠ .via2 →
        (memRead a s).1 = 0 ∧ ∀ bank, debugRead a bank s = 0)) ∧
    (routed a = none →
      debugRead a (if a.toNat < 0xC000 then s.bus.ramBank else s.bus.romBank.toNat) s = (memRead a s).1)

/-- Of $9FB0-$9FBF: registers 0 to 5 and 13 read back what was written; 8 to 11 read the bytes of CYCLES, 14 and 15
read $31 and $36, 6, 7 and 12 read EMU_INVALID_READ. A read changes nothing. A write to register 0 to 5 or 13 changes
that stored register, a write to 15 the LED, and nothing else of the machine: no other emulator register, nothing of
the CPU, the memories, VIDEO or the record of external accesses; a write to 6 to 12 or 14 changes nothing at all. -/
def Obligations.EmulatorRegisters : Prop :=
  ∀ (s : State) (v : Byte),
    (∀ k, k ≤ 5 ∨ k = 13 → (memRead (0x9FB0 + BitVec.ofNat 16 k) (memWrite (0x9FB0 + BitVec.ofNat 16 k) v s)).1 = v) ∧
    (∀ k, k < 4 → ((memRead (0x9FB8 + BitVec.ofNat 16 k) s).1).toNat = s.cpu.cycles.toNat / 256 ^ k % 256) ∧
    (memRead 0x9FBE s).1 = 0x31 ∧ (memRead 0x9FBF s).1 = 0x36 ∧
    (∀ k, k = 6 ∨ k = 7 ∨ k = 12 → (memRead (0x9FB0 + BitVec.ofNat 16 k) s).1 = s.cfg.emuInvalidRead) ∧
    (∀ k, k ≤ 15 → (memRead (0x9FB0 + BitVec.ofNat 16 k) s).2 = s) ∧
    (∀ k, k ≤ 15 → memWrite (0x9FB0 + BitVec.ofNat 16 k) v s = { s with emu :=
      { debug := if k = 0 then v else s.emu.debug
        logVideo := if k = 1 then v else s.emu.logVideo
        logKeyboard := if k = 2 then v else s.emu.logKeyboard
        echo := if k = 3 then v else s.emu.echo
        saveOnExit := if k = 4 then v else s.emu.saveOnExit
        gifCmd := if k = 5 then v else s.emu.gifCmd
        keymap := if k = 13 then v else s.emu.keymap
        led := if k = 15 then v else s.emu.led } }) ∧
    (∀ k, (6 ≤ k ∧ k ≤ 12) ∨ k = 14 → memWrite (0x9FB0 + BitVec.ofNat 16 k) v s = s) ∧
    (∀ k j, k ≤ 15 → j ≤ 15 → j ≠ k →
      (memRead (0x9FB0 + BitVec.ofNat 16 j) (memWrite (0x9FB0 + BitVec.ofNat 16 k) v s)).1 =
        (memRead (0x9FB0 + BitVec.ofNat 16 j) s).1)

/-- The level holds exactly when the external line is up, or VSYNC, raster line or sprite collision is set and
enabled, or the PCM FIFO is low and enabled; the collision masks request nothing. cpu_tick first takes a pending NMI
and consumes it, else an IRQ if the level holds and I is clear, and then steps; otherwise it steps at once. That a
poll answers one of several NMI requests and leaves the others pending is the choice of the model (log 19, DEDUCED).
The machine step under the reference schedule, with legal parameters and an empty script, is that cpu_tick followed by
one video step per cycle it took (modulo 2^32). -/
def Obligations.InterruptRequestLevel : Prop :=
  ∀ s : State,
    (irqLevel s = true ↔ s.pins.extIrq = true ∨
      (∃ k, k < 3 ∧ s.video.isr.getLsbD k = true ∧ s.video.ien.getLsbD k = true) ∨
      (s.pins.pcmFifoLow = true ∧ s.video.ien.getLsbD 3 = true)) ∧
    (0 < s.pins.nmiRequests → cpuTickWith exec s = cpuStep { takeTrap .nmi s with
      pins := { s.pins with nmiRequests := s.pins.nmiRequests - 1 } }) ∧
    (s.pins.nmiRequests = 0 → irqLevel s = true → s.cpu.p.i = false → cpuTickWith exec s = cpuStep (takeTrap .irq s)) ∧
    (s.pins.nmiRequests = 0 → irqLevel s = false ∨ s.cpu.p.i = true → cpuTickWith exec s = cpuStep s) ∧
    (s.cfg.wellFormed = true → s.script = [] → s.cfg.schedule = .machineTick → ∃ t, cpuTickWith exec s = .next t ∧
      step s = .next { t with video := t.video.steps t.cfg ((t.cpu.cycles - s.cpu.cycles).toNat) })

/-- reset(): A, X and Y are 0, SP is $FD, WAIT and STOPPED are clear, PC is the word at $FFFC/$FFFD of the selected
ROM bank, low byte first; every flag, CYCLES, ICOUNT, GOAL, the bank registers, all memory and all of VIDEO are as
before. -/
def Obligations.CpuResetLeaves : Prop :=
  ∀ s : State, cpuReset s = { s with cpu := { s.cpu with
    a := 0, x := 0, y := 0, sp := 0xFD, wait := false, stopped := false
    pc := word (s.cell 0xFFFD) (s.cell 0xFFFC) } }

/-- State.reset has A = X = Y = 0, SP = $FD, WAIT = 0, CYCLES = ICOUNT = GOAL = 0, both bank registers 0, the composer
at 0, 128, 128, 0, 0, 160, 0, 240; its parameters are legal, its memories canonical (the form of log 3, DESIGN CHOICE)
and inside their arrays, its video state (with the frame buffer in the form of log 7, DESIGN CHOICE) and its bank
register legal. (Values of POWER_ON items are the choices of the model, log 2 to 6, and are not stated here.) -/
def Obligations.ResetStateIsSound : Prop :=
  State.reset.cpu.a = 0 ∧ State.reset.cpu.x = 0 ∧ State.reset.cpu.y = 0 ∧ State.reset.cpu.sp = 0xFD ∧
  State.reset.cpu.wait = false ∧ State.reset.cpu.cycles = 0 ∧ State.reset.cpu.icount = 0 ∧
  State.reset.cpu.goal = 0 ∧ State.reset.bus.ramBank = 0 ∧ State.reset.bus.romBank = 0 ∧
  State.reset.video.composer = ⟨0, 128, 128, 0, 0, 160, 0, 240⟩ ∧
  State.reset.cfg.wellFormed = true ∧ State.reset.memorySound = true ∧
  State.reset.video.legal State.reset.cfg = true ∧ State.reset.bankLegal = true

/-- For every state, reached or not, with canonical memories whose listed addresses lie inside RAM, banked RAM, ROM
and video RAM: if step answers a next state, its memories are canonical and inside their arrays too, whatever the
instruction, the inputs and the script of the host. The canonical form (addresses rising, no listed byte equal to the
$00 that an unlisted address reads as) is the choice of the model (log 3, DESIGN CHOICE). -/
def Obligations.StepKeepsMemoriesSound : Prop :=
  ∀ s t : State, s.memorySound = true → step s = .next t → t.memorySound = true

/-- For every state whose stored isr has bit 3 clear, whose collision latch has a clear low nibble, whose scan line is
below SCAN_HEIGHT and whose listed frame buffer rows are in order, on the screen, as wide as it and none of them all
black: if step answers a next state, all of that holds again. That a row which is all black is not listed is the
canonical form of the model, whose unlisted rows read black (log 7, DESIGN CHOICE). -/
def Obligations.StepKeepsVideoLegal : Prop :=
  ∀ s t : State, s.video.legal s.cfg = true → step s = .next t → t.video.legal t.cfg = true

/-- If step answers a next state, the ROM contents and the parameters are as before, and a bank register that fitted
its width still fits it, whatever the script of the host does. -/
def Obligations.StepKeepsRomParametersAndBankWidth : Prop :=
  ∀ s t : State, step s = .next t →
    t.bus.rom = s.bus.rom ∧ t.cfg = s.cfg ∧ (s.bankLegal = true → t.bankLegal = true)

/-- With every opcode and the wait step costing at least one cycle (and none absurdly many): exec(budget) from a CPU
that does not wait answers a next state whose GOAL is the old one plus the budget modulo 2^32 and is no longer ahead
of CYCLES. From a waiting CPU it adds the budget to CYCLES, sets GOAL to CYCLES and changes nothing else. With any
legal parameters, zeros in the cost table included: where the loop ends within some number of CPU steps, the goal is
reached, and any larger number gives the same end; where it has not ended, the evaluation is refused by the name
budgetUnfinished. Illegal parameters, WAIT_STEP_CYCLES 0 among them, are refused. That the loop is evaluated in a
bounded number of steps is the choice of the model (log 22, DEDUCED), as are the refusals (log 20, log 22) and that a
budget of 2^31 or more is taken, modulo 2^32 (log 33, DESIGN CHOICE). -/
def Obligations.ExecBudgetReachesItsGoal : Prop :=
  ∀ (s : State) (budget : Nat),
    (s.cfg.wellFormed = false → ∀ steps, execBudget budget s = .refused .invalidConfiguration ∧
      execBudgetWithin steps budget s = .refused .invalidConfiguration) ∧
    (s.cfg.wellFormed = true → s.cpu.wait = true → execBudget budget s = .next { s with cpu := { s.cpu with
      cycles := s.cpu.cycles + BitVec.ofNat 32 budget, goal := s.cpu.cycles + BitVec.ofNat 32 budget } }) ∧
    (s.cfg.wellFormed = true → s.cpu.wait = false → costsBounded s.cfg →
      ∃ t, execBudget budget s = .next t ∧ t.cpu.goal = s.cpu.goal + BitVec.ofNat 32 budget ∧ goalAhead t = false) ∧
    (s.cfg.wellFormed = true → s.cpu.wait = false → ∀ steps,
      (execBudgetWithin steps budget s = .refused .budgetUnfinished ∨
        ∃ t, execBudgetWithin steps budget s = .next t ∧ t.cpu.goal = s.cpu.goal + BitVec.ofNat 32 budget ∧
          goalAhead t = false ∧ ∀ more, execBudgetWithin (steps + more) budget s = .next t))

/-- A read of $9F23 or $9F24 answers the latch of the cursor in use, which need not be the byte there now; a write
stores at the old address of the cursor. Both then move the cursor by the step of its increment code (0, 0, 1, -1, 2,
-2 up to 640, -640, the 32 of them written out in steps) modulo 2^17 and load its latch from the new address (after
the store). The other cursor, its latch included, and everything else but the told sound generator stay (telling it is
an entry of the record of external accesses: the choice of the model, log 12, DESIGN CHOICE). -/
def Obligations.DataPortAccess : Prop :=
  ∀ (port : Bool) (v : Byte) (s : State),
    let a : Word := if port then 0x9F24 else 0x9F23
    let one := match s.cfg.portCursorBinding with
      | .addrsel => s.video.addrsel
      | .port => port
    let c := s.video.cursor one
    let addr := BitVec.ofInt 17 (c.addr.toNat + steps.getD c.inc.toNat 0)
    (memRead a s).1 = c.latch ∧
    let moved : Cursor := { c with addr := addr, latch := s.video.vram.read addr.toNat }
    (memRead a s).2 = { s with video := s.video.setCursor one moved } ∧
    ∃ t, memWrite a v s = t ∧ t = { s with video := t.video, ext := t.ext } ∧
      (∀ k, t.video.vram.read k = if k = c.addr.toNat then v else s.video.vram.read k) ∧
      t.video = { s.video.setCursor one { c with addr := addr, latch := t.video.vram.read addr.toNat } with
        vram := t.video.vram } ∧
      t.ext = if 0x1F9C0 ≤ c.addr.toNat ∧ c.addr.toNat ≤ 0x1F9FF
        then .write .psg (c.addr.toNat - 0x1F9C0) v :: s.ext else s.ext

/-- Stores of l, m and h to $9F20, $9F21, $9F22 leave the selected cursor at the 17-bit address h[0]:m:l with
increment code h[7:3] and its latch holding the byte there; the registers then read l, m, and h with bits 2:1 zero;
the other cursor and everything else stay. -/
def Obligations.CursorSetUp : Prop :=
  ∀ (l m h : Byte) (s : State),
    let one := s.video.addrsel
    let addr : VAddr := BitVec.ofNat 17 (65536 * (h.toNat % 2) + 256 * m.toNat + l.toNat)
    let t := memWrite 0x9F22 h (memWrite 0x9F21 m (memWrite 0x9F20 l s))
    let c : Cursor := ⟨addr, BitVec.ofNat 5 (h.toNat / 8), s.video.vram.read addr.toNat⟩
    t = { s with video := s.video.setCursor one c } ∧
    (memRead 0x9F20 t).1 = l ∧ (memRead 0x9F21 t).1 = m ∧ (memRead 0x9F22 t).1 = h &&& 0xF9

/-- A store of v to $9F27 clears exactly the bits of isr that are set in v; a read gives the bits of isr but bit 3,
which is the live FIFO input. A store to $9F26 sets the four enables and bit 8 of the compare line and leaves its low
eight bits; a store to $9F28 sets the low eight bits and leaves bit 8 and the enables. Reads of the two give these
back (bits 6 to 4 of $9F26 as 0). Nothing else changes, and a read changes nothing. -/
def Obligations.StatusAndEnableRegisters : Prop :=
  ∀ (v : Byte) (s : State),
    memWrite 0x9F27 v s = { s with video := { s.video with isr := s.video.isr &&& ~~~v } } ∧
    (∀ k, k < 8 → (memRead 0x9F27 s).1.getLsbD k = if k = 3 then s.pins.pcmFifoLow else s.video.isr.getLsbD k) ∧
    memWrite 0x9F26 v s = { s with video := { s.video with
      ien := BitVec.ofNat 4 v.toNat
      irqLine := BitVec.ofNat 9 (256 * (v.toNat / 128) + s.video.irqLine.toNat % 256) } } ∧
    memWrite 0x9F28 v s = { s with video := { s.video with
      irqLine := BitVec.ofNat 9 (256 * (s.video.irqLine.toNat / 256) + v.toNat) } } ∧
    (memRead 0x9F26 s).1.toNat = 128 * (s.video.irqLine.toNat / 256) + s.video.ien.toNat ∧
    (memRead 0x9F28 s).1.toNat = s.video.irqLine.toNat % 256 ∧
    (memRead 0x9F26 (memWrite 0x9F26 v s)).1 = v &&& 0x8F ∧ (memRead 0x9F28 (memWrite 0x9F28 v s)).1 = v ∧
    (memRead 0x9F26 s).2 = s ∧ (memRead 0x9F27 s).2 = s ∧ (memRead 0x9F28 s).2 = s

/-- A store to any of $9F29-$9F3A (four composer registers of the bank that dcsel selects, then seven registers of
each layer) reads back whole, leaves every other register of that range reading as before, and changes nothing but
that register: the four composer registers of the bank that dcsel does not select stay too. -/
def Obligations.ComposerAndLayerRegistersReadBack : Prop :=
  ∀ (k j : Nat) (v : Byte) (s : State), 0x29 ≤ k → k ≤ 0x3A → 0x29 ≤ j → j ≤ 0x3A →
    let t := memWrite (0x9F00 + BitVec.ofNat 16 k) v s
    (memRead (0x9F00 + BitVec.ofNat 16 j) t).1 =
      (if j = k then v else (memRead (0x9F00 + BitVec.ofNat 16 j) s).1) ∧
    t = { s with video := { s.video with
      composer := t.video.composer, layer0 := t.video.layer0, layer1 := t.video.layer1 } } ∧
    (k ≤ 0x2C → t.video.layer0 = s.video.layer0 ∧ t.video.layer1 = s.video.layer1) ∧
    (0x2D ≤ k → t.video.composer = s.video.composer) ∧
    (s.video.dcsel = false → t.video.composer.hstart = s.video.composer.hstart ∧
      t.video.composer.hstop = s.video.composer.hstop ∧ t.video.composer.vstart = s.video.composer.vstart ∧
      t.video.composer.vstop = s.video.composer.vstop) ∧
    (s.video.dcsel = true → t.video.composer.video = s.video.composer.video ∧
      t.video.composer.hscale = s.video.composer.hscale ∧ t.video.composer.vscale = s.video.composer.vscale ∧
      t.video.composer.border = s.video.composer.border) ∧
    (k ≤ 0x33 → t.video.layer1 = s.video.layer1) ∧ (0x34 ≤ k → t.video.layer0 = s.video.layer0)

/-- With bit 7 clear the store sets dcsel and addrsel only. With bit 7 set every video register, both cursors, isr,
ien, the raster position and the collision latch go to their reset values, the palette takes DEFAULT_PALETTE, the
sprite attributes 0, other video memory and the frame buffer stay, and dcsel and addrsel are bits 1 and 0. The CPU,
the BUS and the rest stay. A read of $9F25 gives dcsel in bit 1, addrsel in bit 0 and the other bits 0, and changes
nothing. -/
def Obligations.VideoResetByStore : Prop :=
  ∀ (v : Byte) (s : State),
    (v.getLsbD 7 = false → memWrite 0x9F25 v s =
      { s with video := { s.video with dcsel := v.getLsbD 1, addrsel := v.getLsbD 0 } }) ∧
    (v.getLsbD 7 = true → ∃ t, memWrite 0x9F25 v s = t ∧
      t = { s with video :=
        { vram := t.video.vram, cur0 := ⟨0, 0, s.video.vram.read 0⟩, cur1 := ⟨0, 0, s.video.vram.read 0⟩
          addrsel := v.getLsbD 0, dcsel := v.getLsbD 1, ien := 0, irqLine := 0, isr := 0
          composer := ⟨0, 128, 128, 0, 0, 160, 0, 240⟩
          layer0 := ⟨0, 0, 0, 0, 0, 0, 0⟩, layer1 := ⟨0, 0, 0, 0, 0, 0, 0⟩
          scanXNum := 0, scanY := 0, frameCount := 0, spriteCollisions := 0, fb := s.video.fb } } ∧
      (∀ k, k < 0x1FA00 → t.video.vram.read k = s.video.vram.read k) ∧
      (∀ k, k < 256 →
        (t.video.vram.read (0x1FA00 + 2 * k)).toNat = (s.cfg.defaultPalette.getD k 0).toNat % 256 ∧
        (t.video.vram.read (0x1FA00 + 2 * k + 1)).toNat = (s.cfg.defaultPalette.getD k 0).toNat / 256) ∧
      (∀ k, 0x1FC00 ≤ k → k < 0x20000 → t.video.vram.read k = 0)) ∧
    (memRead 0x9F25 s).1.toNat = 2 * s.video.dcsel.toNat + s.video.addrsel.toNat ∧ (memRead 0x9F25 s).2 = s ∧
    (memRead 0x9F25 (memWrite 0x9F25 v s)).1 = v &&& 3

/-- Default timing, video at effective line 0 with isr bit 1 clear and the compare line at L, 1 to 479: after fewer
than L line steps the bit is still clear, after L it is set. -/
def Obligations.LineInterruptAtItsLine : Prop :=
  ∀ (v : Video) (n : Nat), v.effLine Params.default = 0 → testBit v.isr 1 = false →
    1 ≤ v.irqLine.toNat → v.irqLine.toNat ≤ 479 → n ≤ v.irqLine.toNat →
    testBit (n.repeat (Video.lineStep Params.default) v).isr 1 = decide (n = v.irqLine.toNat)

/-- A line step that brings scan_y to SCAN_HEIGHT makes it 0, counts the frame and sets isr bit 0 only if ien bit 0 is
set, else leaves it; any other line step moves scan_y up by 1 and leaves the frame count and isr bit 0. -/
def Obligations.EndOfFrame : Prop :=
  ∀ (cfg : Params) (v : Video),
    (v.scanY + 1 = cfg.scanHeight → (v.lineStep cfg).scanY = 0 ∧ (v.lineStep cfg).frameCount = v.frameCount + 1 ∧
      testBit (v.lineStep cfg).isr 0 = (v.ien.getLsbD 0 || testBit v.isr 0)) ∧
    (v.scanY + 1 ≠ cfg.scanHeight → (v.lineStep cfg).scanY = v.scanY + 1 ∧
      (v.lineStep cfg).frameCount = v.frameCount ∧ testBit (v.lineStep cfg).isr 0 = testBit v.isr 0)

/-- The sprite attributes and pixels are read from video memory by the numbers of the layout (attr to spriteColour:
data address, colour mode, sizes, ten-bit coordinates with the negative wrap, depth, mask, flips, palette offset).
RenderSpriteLine draws exactly the non-transparent pixels, in order of sprite and column, that the budget pays for (a
look at each of the 128 sprites, one unit per pixel on the screen, one more at each 32-bit boundary; the first charge
that cannot be paid ends the line). A column shows the greatest depth drawn there, in the colour of the
lowest-numbered sprite with that depth; a column without a pixel is clear. A collision bit is latched when it was
before, or when two sprites that both have it in their masks draw on one column. A line composed with the output off,
in the border or with sprites off latches nothing new. That the 640 columns of R443 follow SCREEN_WIDTH is the choice
of the model (log 31, DESIGN CHOICE). A line step that reaches the effective line SCREEN_HEIGHT: with the collision
enable on and a mask latched, isr bit 2 is set and its high nibble is the mask; otherwise both stay; the latch is 0
afterwards in either case. -/
def Obligations.CollisionsAreReportedAtTheEndOfTheScreen : Prop :=
  (∀ (cfg : Params) (v : Video), v.scanY + 1 ≠ cfg.scanHeight →
    Video.effLine { v with scanY := v.scanY + 1 } cfg = cfg.screenHeight →
    (v.lineStep cfg).spriteCollisions = 0 ∧
    (v.ien.getLsbD 2 = true → v.spriteCollisions ≠ 0 →
      testBit (v.lineStep cfg).isr 2 = true ∧
      (v.lineStep cfg).isr.toNat / 16 = v.spriteCollisions.toNat / 16) ∧
    (v.ien.getLsbD 2 = false ∨ v.spriteCollisions = 0 →
      testBit (v.lineStep cfg).isr 2 = testBit v.isr 2 ∧ (v.lineStep cfg).isr.toNat / 16 = v.isr.toNat / 16)) ∧
  (∀ (cfg : Params) (v : Video) (y : Nat), ∃ l, v.renderSpriteLine cfg y = l ∧
    l.exhausted = decide (cfg.spriteBudget < spritesCost cfg v y 128) ∧
    (∀ k, k < 8 → (l.collisions.getLsbD k = true ↔ v.spriteCollisions.getLsbD k = true ∨
      ∃ i j x c d, i < j ∧ j < 128 ∧ draws cfg v y i x c ∧ draws cfg v y j x d ∧
        inMask v i k = true ∧ inMask v j k = true)) ∧
    ∀ x, x < cfg.screenWidth → ∃ cell, l.cells[x]? = some cell ∧
      ((∀ i c, i < 128 → ¬draws cfg v y i x c) → cell.z = 0 ∧ cell.col = 0) ∧
      (∀ i c, i < 128 → draws cfg v y i x c → spriteZ v i ≤ cell.z ∧
        (spriteZ v i = cell.z → (∀ j d, j < i → draws cfg v y j x d → spriteZ v j < cell.z) →
          cell.col.toNat = offsetColour c (attr v i 7 &&& 0x0F))) ∧
      ((∃ i c, i < 128 ∧ draws cfg v y i x c) → ∃ i c, i < 128 ∧ draws cfg v y i x c ∧ spriteZ v i = cell.z)) ∧
  (∀ (cfg : Params) (v : Video) (eff : Nat), (v.composeLine cfg eff).spriteCollisions =
    if v.composer.video.toNat % 4 = 0 ∨ eff < 2 * v.composer.vstart.toNat ∨ 2 * v.composer.vstop.toNat ≤ eff ∨
      v.composer.video.getLsbD 6 = false then v.spriteCollisions
    else (v.renderSpriteLine cfg (v.composer.vscale.toNat * (eff - 2 * v.composer.vstart.toNat) / 128)).collisions)

/-- Any number of video steps leaves video memory, the cursors, the select bits, the enables, the compare line, the
composer and the layers as they are. scan_x (held as a numerator over the CPU clock, log 16) grows by the pixel clock
of the mode per step and wraps only when it is strictly above SCAN_WIDTH: then the step is LineStep at the reduced
scan_x, else nothing but scan_x moves. So after n steps from scan_x at most SCAN_WIDTH the lines completed are all but
one of the SCAN_WIDTHs begun, scan_x is the rest, and scan_y and the frame count have moved by those lines. LineStep
moves scan_y, and at an effective line on the screen composes it (frame buffer and collision latch are those of
ComposeLine); at any other the frame buffer stays, and the latch stays unless the line is SCREEN_HEIGHT, where it is
cleared. It changes isr so: bit 0 at an enabled end of frame, bit 1 at the compare line (if enabled, where the
parameter asks for it), bit 2 and the mask at an enabled report of collisions; it clears no bit but by that mask.
Composing line eff writes row eff of the frame buffer and no other: every row and column of the screen has an entry,
and nothing else has. -/
def Obligations.VideoStepWritesOnlyItsOutput : Prop :=
  (∀ (cfg : Params) (n : Nat) (v : Video), ∃ w, v.steps cfg n = w ∧
    w = { v with
      scanXNum := w.scanXNum, scanY := w.scanY, frameCount := w.frameCount
      isr := w.isr, spriteCollisions := w.spriteCollisions, fb := w.fb }) ∧
  (∀ (cfg : Params) (v : Video),
    let x := v.scanXNum + if v.composer.video.getLsbD 1 then cfg.pixelFreqNtsc else cfg.pixelFreqVga
    (x ≤ cfg.scanWidth * cfg.cpuFreq → v.step cfg = { v with scanXNum := x }) ∧
    (cfg.scanWidth * cfg.cpuFreq < x → v.step cfg =
      Video.lineStep cfg { v with scanXNum := x - cfg.scanWidth * cfg.cpuFreq }) ∧
    v.steps cfg 0 = v ∧ ∀ n, v.steps cfg (n + 1) = (v.step cfg).steps cfg n) ∧
  (∀ (cfg : Params) (v : Video),
    let w := v.lineStep cfg
    let y := if v.scanY + 1 = cfg.scanHeight then 0 else v.scanY + 1
    let eff := effective cfg v y
    let shown := 0 ≤ eff ∧ eff < cfg.screenHeight
    let reported := eff = cfg.screenHeight ∧ v.ien.getLsbD 2 = true ∧ v.spriteCollisions ≠ 0
    w = { v with
      scanY := y, frameCount := if v.scanY + 1 = cfg.scanHeight then v.frameCount + 1 else v.frameCount
      isr := w.isr, spriteCollisions := w.spriteCollisions, fb := w.fb } ∧
    (shown → w.fb = (v.composeLine cfg eff.toNat).fb ∧
      w.spriteCollisions = (v.composeLine cfg eff.toNat).spriteCollisions) ∧
    (¬shown → w.fb = v.fb ∧ w.spriteCollisions = if eff = cfg.screenHeight then 0 else v.spriteCollisions) ∧
    (w.isr.getLsbD 0 = true ↔ v.isr.getLsbD 0 = true ∨ v.scanY + 1 = cfg.scanHeight ∧ v.ien.getLsbD 0 = true) ∧
    (w.isr.getLsbD 1 = true ↔ v.isr.getLsbD 1 = true ∨
      eff = v.irqLine.toNat ∧ (cfg.rasterNeedsEnable = true → v.ien.getLsbD 1 = true)) ∧
    (w.isr.getLsbD 2 = true ↔ v.isr.getLsbD 2 = true ∨ reported) ∧ w.isr.getLsbD 3 = v.isr.getLsbD 3 ∧
    (reported → w.isr.toNat / 16 = v.spriteCollisions.toNat / 16) ∧ (¬reported → w.isr.toNat / 16 = v.isr.toNat / 16)) ∧
  (∀ (cfg : Params) (n : Nat) (v : Video),
    let freq := if v.composer.video.getLsbD 1 then cfg.pixelFreqNtsc else cfg.pixelFreqVga
    let width := cfg.scanWidth * cfg.cpuFreq
    let lines := (v.scanXNum + n * freq - 1) / width
    0 < width → freq ≤ width → v.scanXNum ≤ width → v.scanY < cfg.scanHeight →
    (v.steps cfg n).scanXNum + lines * width = v.scanXNum + n * freq ∧
    (v.steps cfg n).frameCount * cfg.scanHeight + (v.steps cfg n).scanY =
      v.frameCount * cfg.scanHeight + v.scanY + lines ∧
    (v.steps cfg n).scanY < cfg.scanHeight) ∧
  (∀ (cfg : Params) (eff row col : Nat) (v : Video),
    (row ≠ eff → (v.composeLine cfg eff).pixel cfg row col = v.pixel cfg row col) ∧
    ((v.pixel cfg row col).isSome = true ↔ row < cfg.screenHeight ∧ col < cfg.screenWidth) ∧
    (row < cfg.screenHeight → col < cfg.screenWidth →
      (v.composeLine cfg row).pixel cfg row col = (v.linePixels cfg row)[col]?))

/-- With the output off every pixel of a line is (0, 0, 255). Else a line outside vstart to vstop and a column outside
hstart to hstop (registers times 2 and 4, columns cut at the screen) show the border index, and an active column mixes
sprite and enabled layers at the scaled source position; a disabled source and a sprite column off the scratch arrays
give 0. Mix shows the first colour that is not 0: at depth 3 sprite, layer 1, layer 0; at 2 layer 1, sprite, layer 0;
at 1 layer 1, layer 0, sprite; at 0 layer 1, layer 0. The reference layer function is layerColour, the rules for text,
tiles and bitmaps on numbers. Palette entry i is the bytes at $1FA00 + 2i (green and blue, then red): a channel is 17
times its nibble, the average of the three with chroma-disable, and a quarter of that in the NTSC overscan, which by
default is columns below 43 and above 597 and lines below 24 and above 456. That the cut of columns and the overscan
follow SCREEN_WIDTH and SCREEN_HEIGHT, and that bitmap rows wrap at 480 always, is the choice of the model (log 31,
DESIGN CHOICE). -/
def Obligations.MixByDepth : Prop :=
  (∀ (s l0 l1 : Byte) (z : Nat), mix s z l0 l1 =
    ((if z = 3 then [s, l1, l0] else if z = 2 then [l1, s, l0] else if z = 1 then [l1, l0, s] else [l1, l0]).find?
      (fun c => c ≠ 0)).getD 0) ∧
  (∀ (v : Video) (cfg : Params) (i : Byte) (x eff : Nat),
    let lo := (v.vram.read (0x1FA00 + 2 * i.toNat)).toNat
    let hi := (v.vram.read (0x1FA00 + 2 * i.toNat + 1)).toNat
    let shown := fun n : Nat =>
      (if v.composer.video.getLsbD 2 then (hi % 16 * 17 + lo / 16 * 17 + lo % 16 * 17) / 3 else n * 17) /
        (if v.composer.video.toNat % 4 = 2 ∧ overscan cfg x eff = true then 4 else 1)
    (v.colour cfg i x eff).g.toNat = shown (lo / 16) ∧ (v.colour cfg i x eff).b.toNat = shown (lo % 16) ∧
    (v.colour cfg i x eff).r.toNat = shown (hi % 16)) ∧
  (∀ x eff, overscan Params.default x eff = decide (x < 43 ∨ 597 < x ∨ eff < 24 ∨ 456 < eff)) ∧
  (∀ (v : Video) (cfg : Params) (eff x : Nat), x < cfg.screenWidth →
    let c := v.composer
    let hs := min (4 * c.hstart.toNat) cfg.screenWidth
    let xs := c.hscale.toNat * (x - hs) / 128
    let ys := c.vscale.toNat * (eff - 2 * c.vstart.toNat) / 128
    let cell := (v.renderSpriteLine cfg ys).cells.getD xs ⟨0, 0, 0⟩
    let sprites := c.video.getLsbD 6
    (v.linePixels cfg eff)[x]? = some (
      if c.video.toNat % 4 = 0 then ⟨0, 0, 255⟩
      else if eff < 2 * c.vstart.toNat ∨ 2 * c.vstop.toNat ≤ eff ∨ x < 4 * c.hstart.toNat ∨ 4 * c.hstop.toNat ≤ x then
        v.colour cfg c.border x eff
      else v.colour cfg (mix (if sprites then cell.col else 0) (if sprites then cell.z else 0)
        (if c.video.getLsbD 4 then v.layerPixel cfg false xs ys else 0)
        (if c.video.getLsbD 5 then v.layerPixel cfg true xs ys else 0)) x eff)) ∧
  (∀ (v : Video) (cfg : Params) (one : Bool) (x y : Nat), cfg.layerPixelFn = .reference →
    (v.layerPixel cfg one x y).toNat =
      layerColour v (fun k => ((if one then v.layer1 else v.layer0).get k).toNat) x y)
end

