-- ==== Sys2Proof/Laws/Assembler.lean ====
section
/-! SUPPORT. The assembler form agrees with the encoding (`30_encoding.md` R145, R146): the mode gives the length, and the
offset written for a target leads to it. -/

namespace Sys2Proof.Machine

/-- The length the decoder uses is the one R145 gives the mode of the opcode. -/
theorem opcodeLength_eq_mode_bytes : ∀ op : Byte, opcodeLength op = (opcodeMode op).bytes := by decide

/-- A branch with the offset that the assembler writes goes to the target. -/
theorem branchOffset_reaches {next target : Word} {r : Byte} (h : branchOffset next target = some r) :
    next + r.signExtend 16 = target := by
  unfold branchOffset at h
  dsimp only at h
  split at h
  · next hd =>
    cases h
    rw [BitVec.signExtend]
    have : (BitVec.ofInt 8 (target - next).toInt).toInt = (target - next).toInt := by
      rw [BitVec.toInt_ofInt]
      exact Int.bmod_eq_of_le (by omega) (by omega)
    rw [this, BitVec.ofInt_toInt]
    bv_omega
  · cases h

end Sys2Proof.Machine
end

