-- ==== Sys2Proof/Laws/Memory.lean ====
section
/-! SUPPORT. The laws of the sparse memories: read after write, the frame of a write, and that every write keeps the
canonical form and the bound of the array. -/

namespace Sys2Proof.Machine

@[simp] theorem Memory.read_nil (a : Nat) : Memory.read [] a = Memory.unlisted := rfl

theorem Memory.read_cons (b : Nat) (w : Byte) (m : Memory) (a : Nat) :
    Memory.read ((b, w) :: m) a = if b = a then w else Memory.read m a := rfl

theorem Memory.read_insert_same (m : Memory) (a : Nat) (v : Byte) : (m.insert a v).read a = v := by
  induction m with
  | nil => simp [Memory.insert, Memory.read]
  | cons c m ih =>
    obtain ⟨b, w⟩ := c
    unfold Memory.insert
    split
    · simp [Memory.read]
    · split
      · simp [Memory.read]
      · rw [Memory.read_cons, ih, if_neg (by omega)]

theorem Memory.read_insert_other (m : Memory) {a b : Nat} (v : Byte) (h : b ≠ a) :
    (m.insert a v).read b = m.read b := by
  induction m with
  | nil => simp [Memory.insert, Memory.read, h.symm]
  | cons c m ih =>
    obtain ⟨d, w⟩ := c
    unfold Memory.insert
    split
    · rw [Memory.read_cons, if_neg h.symm]
    · split
      · next e => rw [Memory.read_cons, Memory.read_cons, if_neg h.symm, if_neg (by omega)]
      · rw [Memory.read_cons, Memory.read_cons, ih]

theorem Memory.read_filter_same (m : Memory) (a : Nat) :
    Memory.read (m.filter (fun c => c.1 != a)) a = Memory.unlisted := by
  induction m with
  | nil => rfl
  | cons c m ih =>
    obtain ⟨b, w⟩ := c
    by_cases h : b = a
    · simpa [List.filter_cons, h] using ih
    · simpa [List.filter_cons, h, Memory.read] using ih

theorem Memory.read_filter_other (m : Memory) {a b : Nat} (h : b ≠ a) :
    Memory.read (m.filter (fun c => c.1 != a)) b = m.read b := by
  induction m with
  | nil => rfl
  | cons c m ih =>
    obtain ⟨d, w⟩ := c
    by_cases e : d = a
    · have hne : d ≠ b := by omega
      simpa [List.filter_cons, e, Memory.read, hne, h.symm] using ih
    · by_cases k : d = b
      · subst k
        simp [h, Memory.read]
      · simpa [List.filter_cons, e, Memory.read, k] using ih

/-- A read after a write to the same address gives the byte written. -/
@[simp] theorem Memory.read_write_same (m : Memory) (a : Nat) (v : Byte) : (m.write a v).read a = v := by
  unfold Memory.write
  split
  · next h => rw [Memory.read_filter_same, h]
  · exact Memory.read_insert_same m a v

/-- A write leaves every other address alone. -/
theorem Memory.read_write_other (m : Memory) {a b : Nat} (v : Byte) (h : b ≠ a) :
    (m.write a v).read b = m.read b := by
  unfold Memory.write
  split
  · exact Memory.read_filter_other m h
  · exact Memory.read_insert_other m v h

/-- What any address reads as after a write. -/
theorem Memory.read_write (m : Memory) (a b : Nat) (v : Byte) :
    (m.write a v).read b = if b = a then v else m.read b := by
  split
  · next h => rw [h, Memory.read_write_same]
  · next h => exact Memory.read_write_other m v h

/-! ### The canonical form -/

theorem Memory.rising_mono {low low' : Nat} (m : Memory) (h : low ≤ low') (hm : Memory.rising low' m) :
    Memory.rising low m := by
  cases m with
  | nil => rfl
  | cons c m =>
    simp only [Memory.rising, Bool.and_eq_true, decide_eq_true_eq] at *
    exact ⟨⟨by omega, hm.1.2⟩, hm.2⟩

theorem Memory.rising_insert {low a : Nat} {v : Byte} (m : Memory) (hv : v ≠ Memory.unlisted) (ha : low ≤ a)
    (hm : Memory.rising low m) : Memory.rising low (m.insert a v) := by
  induction m generalizing low with
  | nil => simp [Memory.insert, Memory.rising, hv, ha]
  | cons c m ih =>
    obtain ⟨b, w⟩ := c
    simp only [Memory.rising, Bool.and_eq_true, decide_eq_true_eq] at hm
    unfold Memory.insert
    split
    · simp only [Memory.rising, Bool.and_eq_true, decide_eq_true_eq]
      exact ⟨⟨ha, hv⟩, ⟨by omega, hm.1.2⟩, hm.2⟩
    · split
      · next e =>
        simp only [Memory.rising, Bool.and_eq_true, decide_eq_true_eq]
        exact ⟨⟨ha, hv⟩, e ▸ hm.2⟩
      · simp only [Memory.rising, Bool.and_eq_true, decide_eq_true_eq]
        exact ⟨hm.1, ih (by omega) hm.2⟩

theorem Memory.rising_filter {low : Nat} (p : Host.Cell → Bool) (m : Memory) (hm : Memory.rising low m) :
    Memory.rising low (List.filter p m) := by
  induction m generalizing low with
  | nil => rfl
  | cons c m ih =>
    simp only [Memory.rising, Bool.and_eq_true, decide_eq_true_eq] at hm
    rw [List.filter_cons]
    split
    · simp only [Memory.rising, Bool.and_eq_true, decide_eq_true_eq]
      exact ⟨hm.1, ih hm.2⟩
    · exact ih (Memory.rising_mono m (by omega) hm.2)

/-- A write keeps the canonical form. -/
theorem Memory.wf_write (m : Memory) (a : Nat) (v : Byte) (hm : m.wf) : (m.write a v).wf := by
  unfold Memory.write Memory.wf at *
  split
  · exact Memory.rising_filter _ m hm
  · next h => exact Memory.rising_insert m h (Nat.zero_le a) hm

/-- A write inside the array keeps every listed address inside it. -/
theorem Memory.below_write {size a : Nat} (m : Memory) (v : Byte) (ha : a < size) (hm : m.below size) :
    (m.write a v).below size := by
  have hi : (m.insert a v).below size := by
    induction m with
    | nil => simp [Memory.insert, Memory.below, ha]
    | cons c m ih =>
      obtain ⟨b, w⟩ := c
      simp only [Memory.below, List.all_cons, Bool.and_eq_true, decide_eq_true_eq] at hm ih
      unfold Memory.insert
      split
      · simp only [Memory.below, List.all_cons, Bool.and_eq_true, decide_eq_true_eq]
        exact ⟨ha, hm⟩
      · split
        · simp only [Memory.below, List.all_cons, Bool.and_eq_true, decide_eq_true_eq]
          exact ⟨ha, hm.2⟩
        · simp only [Memory.below, List.all_cons, Bool.and_eq_true, decide_eq_true_eq]
          exact ⟨hm.1, ih hm.2⟩
  unfold Memory.write
  split
  · unfold Memory.below at *
    rw [List.all_eq_true] at *
    exact fun c hc => hm c (List.mem_of_mem_filter hc)
  · exact hi

/-- A write inside the array keeps a memory sound. -/
theorem Memory.sound_write {size a : Nat} (m : Memory) (v : Byte) (ha : a < size) (hm : m.sound size) :
    (m.write a v).sound size := by
  simp only [Memory.sound, Bool.and_eq_true] at *
  exact ⟨Memory.wf_write m a v hm.1, Memory.below_write m v ha hm.2⟩

/-- Writing a run of bytes inside the array keeps a memory sound. -/
theorem Memory.sound_writeAll {size : Nat} (bytes : List Byte) (m : Memory) (a : Nat) (h : a + bytes.length ≤ size)
    (hm : m.sound size) : (m.writeAll a bytes).sound size := by
  induction bytes generalizing m a with
  | nil => exact hm
  | cons v bytes ih =>
    simp only [List.length_cons] at h
    exact ih (m.write a v) (a + 1) (by omega) (Memory.sound_write m v (by omega) hm)

/-- A run of bytes leaves every address outside it alone. -/
theorem Memory.read_writeAll_other (bytes : List Byte) (m : Memory) {a b : Nat} (h : b < a ∨ a + bytes.length ≤ b) :
    (m.writeAll a bytes).read b = m.read b := by
  induction bytes generalizing m a with
  | nil => rfl
  | cons v bytes ih =>
    simp only [List.length_cons] at h
    show ((m.write a v).writeAll (a + 1) bytes).read b = m.read b
    rw [ih (m.write a v) (by omega), Memory.read_write_other m v (by omega)]

/-- Inside a run of bytes every address reads as the byte written to it. -/
theorem Memory.read_writeAll_inside (bytes : List Byte) (m : Memory) (a i : Nat) (h : i < bytes.length) :
    (m.writeAll a bytes).read (a + i) = bytes[i] := by
  induction bytes generalizing m a i with
  | nil => simp at h
  | cons v bytes ih =>
    show ((m.write a v).writeAll (a + 1) bytes).read (a + i) = _
    cases i with
    | zero => rw [Memory.read_writeAll_other bytes _ (by omega)]; simp
    | succ i =>
      have h' : i < bytes.length := by simpa using h
      have := ih (m.write a v) (a + 1) i h'
      rw [show a + (i + 1) = a + 1 + i by omega, this]
      rfl

/-- Two canonical memories with the same bytes are the same list. -/
theorem Memory.rising_ext {low : Nat} (m m' : Memory) (hm : Memory.rising low m) (hm' : Memory.rising low m')
    (h : ∀ a, m.read a = m'.read a) : m = m' := by
  have unread : ∀ (m : Memory) (low a : Nat), Memory.rising low m → a < low → m.read a = Memory.unlisted := by
    intro m
    induction m with
    | nil => intros; rfl
    | cons c m ih =>
      intro low a hm ha
      obtain ⟨b, w⟩ := c
      simp only [Memory.rising, Bool.and_eq_true, decide_eq_true_eq] at hm
      rw [Memory.read_cons, if_neg (by omega)]
      exact ih _ a hm.2 (by omega)
  induction m generalizing low m' with
  | nil =>
    cases m' with
    | nil => rfl
    | cons c m' =>
      obtain ⟨b, w⟩ := c
      simp only [Memory.rising, Bool.and_eq_true, decide_eq_true_eq] at hm'
      exact absurd (by simpa [Memory.read] using (h b).symm) hm'.1.2
  | cons c m ih =>
    obtain ⟨b, w⟩ := c
    simp only [Memory.rising, Bool.and_eq_true, decide_eq_true_eq] at hm
    cases m' with
    | nil => exact absurd (by simpa [Memory.read] using h b) hm.1.2
    | cons c' m' =>
      obtain ⟨d, x⟩ := c'
      simp only [Memory.rising, Bool.and_eq_true, decide_eq_true_eq] at hm'
      have hbd : b = d := by
        rcases Nat.lt_trichotomy b d with hlt | heq | hgt
        · have e := h b
          rw [Memory.read_cons, if_pos rfl, Memory.read_cons, if_neg (by omega), unread m' _ b hm'.2 (by omega)] at e
          exact absurd e hm.1.2
        · exact heq
        · have e := h d
          rw [Memory.read_cons, if_neg (by omega), Memory.read_cons, if_pos rfl, unread m _ d hm.2 (by omega)] at e
          exact absurd e.symm hm'.1.2
      subst hbd
      have hwx : w = x := by simpa [Memory.read] using h b
      subst hwx
      have : m = m' := by
        refine ih m' hm.2 hm'.2 fun a => ?_
        by_cases ha : b = a
        · subst ha
          rw [unread m _ b hm.2 (by omega), unread m' _ b hm'.2 (by omega)]
        · simpa [Memory.read_cons, ha] using h a
      rw [this]

/-- Canonical memories are equal exactly when all their bytes are. -/
theorem Memory.wf_ext (m m' : Memory) (hm : m.wf) (hm' : m'.wf) (h : ∀ a, m.read a = m'.read a) : m = m' :=
  Memory.rising_ext m m' hm hm' h

end Sys2Proof.Machine
end

