-- ==== Sys2Proof/Laws/State.lean ====
section
/-! SUPPORT. One lemma per field of the state for every named update of the CPU, and for the fields of the flags. -/

namespace Sys2Proof.Machine

@[simp] theorem State.setPc_cpu (s : State) (w : Word) : (s.setPc w).cpu = { s.cpu with pc := w } := rfl
@[simp] theorem State.setPc_cfg (s : State) (w : Word) : (s.setPc w).cfg = s.cfg := rfl
@[simp] theorem State.setPc_bus (s : State) (w : Word) : (s.setPc w).bus = s.bus := rfl
@[simp] theorem State.setPc_video (s : State) (w : Word) : (s.setPc w).video = s.video := rfl
@[simp] theorem State.setPc_emu (s : State) (w : Word) : (s.setPc w).emu = s.emu := rfl
@[simp] theorem State.setPc_pins (s : State) (w : Word) : (s.setPc w).pins = s.pins := rfl
@[simp] theorem State.setPc_ext (s : State) (w : Word) : (s.setPc w).ext = s.ext := rfl
@[simp] theorem State.setPc_script (s : State) (w : Word) : (s.setPc w).script = s.script := rfl

@[simp] theorem State.setSp_cpu (s : State) (v : Byte) : (s.setSp v).cpu = { s.cpu with sp := v } := rfl
@[simp] theorem State.setSp_cfg (s : State) (v : Byte) : (s.setSp v).cfg = s.cfg := rfl
@[simp] theorem State.setSp_bus (s : State) (v : Byte) : (s.setSp v).bus = s.bus := rfl
@[simp] theorem State.setSp_video (s : State) (v : Byte) : (s.setSp v).video = s.video := rfl
@[simp] theorem State.setSp_emu (s : State) (v : Byte) : (s.setSp v).emu = s.emu := rfl
@[simp] theorem State.setSp_pins (s : State) (v : Byte) : (s.setSp v).pins = s.pins := rfl
@[simp] theorem State.setSp_ext (s : State) (v : Byte) : (s.setSp v).ext = s.ext := rfl
@[simp] theorem State.setSp_script (s : State) (v : Byte) : (s.setSp v).script = s.script := rfl

@[simp] theorem State.setA_cpu (s : State) (v : Byte) : (s.setA v).cpu = { s.cpu with a := v } := rfl
@[simp] theorem State.setA_cfg (s : State) (v : Byte) : (s.setA v).cfg = s.cfg := rfl
@[simp] theorem State.setA_bus (s : State) (v : Byte) : (s.setA v).bus = s.bus := rfl
@[simp] theorem State.setA_video (s : State) (v : Byte) : (s.setA v).video = s.video := rfl
@[simp] theorem State.setA_emu (s : State) (v : Byte) : (s.setA v).emu = s.emu := rfl
@[simp] theorem State.setA_pins (s : State) (v : Byte) : (s.setA v).pins = s.pins := rfl
@[simp] theorem State.setA_ext (s : State) (v : Byte) : (s.setA v).ext = s.ext := rfl
@[simp] theorem State.setA_script (s : State) (v : Byte) : (s.setA v).script = s.script := rfl

@[simp] theorem State.setX_cpu (s : State) (v : Byte) : (s.setX v).cpu = { s.cpu with x := v } := rfl
@[simp] theorem State.setX_cfg (s : State) (v : Byte) : (s.setX v).cfg = s.cfg := rfl
@[simp] theorem State.setX_bus (s : State) (v : Byte) : (s.setX v).bus = s.bus := rfl
@[simp] theorem State.setX_video (s : State) (v : Byte) : (s.setX v).video = s.video := rfl
@[simp] theorem State.setX_emu (s : State) (v : Byte) : (s.setX v).emu = s.emu := rfl
@[simp] theorem State.setX_pins (s : State) (v : Byte) : (s.setX v).pins = s.pins := rfl
@[simp] theorem State.setX_ext (s : State) (v : Byte) : (s.setX v).ext = s.ext := rfl
@[simp] theorem State.setX_script (s : State) (v : Byte) : (s.setX v).script = s.script := rfl

@[simp] theorem State.setY_cpu (s : State) (v : Byte) : (s.setY v).cpu = { s.cpu with y := v } := rfl
@[simp] theorem State.setY_cfg (s : State) (v : Byte) : (s.setY v).cfg = s.cfg := rfl
@[simp] theorem State.setY_bus (s : State) (v : Byte) : (s.setY v).bus = s.bus := rfl
@[simp] theorem State.setY_video (s : State) (v : Byte) : (s.setY v).video = s.video := rfl
@[simp] theorem State.setY_emu (s : State) (v : Byte) : (s.setY v).emu = s.emu := rfl
@[simp] theorem State.setY_pins (s : State) (v : Byte) : (s.setY v).pins = s.pins := rfl
@[simp] theorem State.setY_ext (s : State) (v : Byte) : (s.setY v).ext = s.ext := rfl
@[simp] theorem State.setY_script (s : State) (v : Byte) : (s.setY v).script = s.script := rfl

@[simp] theorem State.setP_cpu (s : State) (f : Flags) : (s.setP f).cpu = { s.cpu with p := f } := rfl
@[simp] theorem State.setP_cfg (s : State) (f : Flags) : (s.setP f).cfg = s.cfg := rfl
@[simp] theorem State.setP_bus (s : State) (f : Flags) : (s.setP f).bus = s.bus := rfl
@[simp] theorem State.setP_video (s : State) (f : Flags) : (s.setP f).video = s.video := rfl
@[simp] theorem State.setP_emu (s : State) (f : Flags) : (s.setP f).emu = s.emu := rfl
@[simp] theorem State.setP_pins (s : State) (f : Flags) : (s.setP f).pins = s.pins := rfl
@[simp] theorem State.setP_ext (s : State) (f : Flags) : (s.setP f).ext = s.ext := rfl
@[simp] theorem State.setP_script (s : State) (f : Flags) : (s.setP f).script = s.script := rfl

@[simp] theorem State.setWait_cpu (s : State) (b : Bool) : (s.setWait b).cpu = { s.cpu with wait := b } := rfl
@[simp] theorem State.setWait_cfg (s : State) (b : Bool) : (s.setWait b).cfg = s.cfg := rfl
@[simp] theorem State.setWait_bus (s : State) (b : Bool) : (s.setWait b).bus = s.bus := rfl
@[simp] theorem State.setWait_video (s : State) (b : Bool) : (s.setWait b).video = s.video := rfl
@[simp] theorem State.setWait_emu (s : State) (b : Bool) : (s.setWait b).emu = s.emu := rfl
@[simp] theorem State.setWait_pins (s : State) (b : Bool) : (s.setWait b).pins = s.pins := rfl
@[simp] theorem State.setWait_ext (s : State) (b : Bool) : (s.setWait b).ext = s.ext := rfl
@[simp] theorem State.setWait_script (s : State) (b : Bool) : (s.setWait b).script = s.script := rfl

@[simp] theorem State.setStopped_cpu (s : State) (b : Bool) : (s.setStopped b).cpu = { s.cpu with stopped := b } := rfl
@[simp] theorem State.setStopped_cfg (s : State) (b : Bool) : (s.setStopped b).cfg = s.cfg := rfl
@[simp] theorem State.setStopped_bus (s : State) (b : Bool) : (s.setStopped b).bus = s.bus := rfl
@[simp] theorem State.setStopped_video (s : State) (b : Bool) : (s.setStopped b).video = s.video := rfl
@[simp] theorem State.setStopped_emu (s : State) (b : Bool) : (s.setStopped b).emu = s.emu := rfl
@[simp] theorem State.setStopped_pins (s : State) (b : Bool) : (s.setStopped b).pins = s.pins := rfl
@[simp] theorem State.setStopped_ext (s : State) (b : Bool) : (s.setStopped b).ext = s.ext := rfl
@[simp] theorem State.setStopped_script (s : State) (b : Bool) : (s.setStopped b).script = s.script := rfl

@[simp] theorem State.setGoal_cpu (s : State) (g : Counter) : (s.setGoal g).cpu = { s.cpu with goal := g } := rfl
@[simp] theorem State.setGoal_cfg (s : State) (g : Counter) : (s.setGoal g).cfg = s.cfg := rfl
@[simp] theorem State.setGoal_bus (s : State) (g : Counter) : (s.setGoal g).bus = s.bus := rfl
@[simp] theorem State.setGoal_video (s : State) (g : Counter) : (s.setGoal g).video = s.video := rfl
@[simp] theorem State.setGoal_emu (s : State) (g : Counter) : (s.setGoal g).emu = s.emu := rfl
@[simp] theorem State.setGoal_pins (s : State) (g : Counter) : (s.setGoal g).pins = s.pins := rfl
@[simp] theorem State.setGoal_ext (s : State) (g : Counter) : (s.setGoal g).ext = s.ext := rfl
@[simp] theorem State.setGoal_script (s : State) (g : Counter) : (s.setGoal g).script = s.script := rfl

@[simp] theorem State.raiseGoal_cpu (s : State) (n : Nat) : (s.raiseGoal n).cpu = { s.cpu with goal := s.cpu.goal + BitVec.ofNat 32 n } := rfl
@[simp] theorem State.raiseGoal_cfg (s : State) (n : Nat) : (s.raiseGoal n).cfg = s.cfg := rfl
@[simp] theorem State.raiseGoal_bus (s : State) (n : Nat) : (s.raiseGoal n).bus = s.bus := rfl
@[simp] theorem State.raiseGoal_video (s : State) (n : Nat) : (s.raiseGoal n).video = s.video := rfl
@[simp] theorem State.raiseGoal_emu (s : State) (n : Nat) : (s.raiseGoal n).emu = s.emu := rfl
@[simp] theorem State.raiseGoal_pins (s : State) (n : Nat) : (s.raiseGoal n).pins = s.pins := rfl
@[simp] theorem State.raiseGoal_ext (s : State) (n : Nat) : (s.raiseGoal n).ext = s.ext := rfl
@[simp] theorem State.raiseGoal_script (s : State) (n : Nat) : (s.raiseGoal n).script = s.script := rfl

@[simp] theorem State.charge_cpu (s : State) (n : Nat) : (s.charge n).cpu = { s.cpu with cycles := s.cpu.cycles + BitVec.ofNat 32 n } := rfl
@[simp] theorem State.charge_cfg (s : State) (n : Nat) : (s.charge n).cfg = s.cfg := rfl
@[simp] theorem State.charge_bus (s : State) (n : Nat) : (s.charge n).bus = s.bus := rfl
@[simp] theorem State.charge_video (s : State) (n : Nat) : (s.charge n).video = s.video := rfl
@[simp] theorem State.charge_emu (s : State) (n : Nat) : (s.charge n).emu = s.emu := rfl
@[simp] theorem State.charge_pins (s : State) (n : Nat) : (s.charge n).pins = s.pins := rfl
@[simp] theorem State.charge_ext (s : State) (n : Nat) : (s.charge n).ext = s.ext := rfl
@[simp] theorem State.charge_script (s : State) (n : Nat) : (s.charge n).script = s.script := rfl

@[simp] theorem State.countInstruction_cpu (s : State) : (s.countInstruction).cpu = { s.cpu with icount := s.cpu.icount + 1 } := rfl
@[simp] theorem State.countInstruction_cfg (s : State) : (s.countInstruction).cfg = s.cfg := rfl
@[simp] theorem State.countInstruction_bus (s : State) : (s.countInstruction).bus = s.bus := rfl
@[simp] theorem State.countInstruction_video (s : State) : (s.countInstruction).video = s.video := rfl
@[simp] theorem State.countInstruction_emu (s : State) : (s.countInstruction).emu = s.emu := rfl
@[simp] theorem State.countInstruction_pins (s : State) : (s.countInstruction).pins = s.pins := rfl
@[simp] theorem State.countInstruction_ext (s : State) : (s.countInstruction).ext = s.ext := rfl
@[simp] theorem State.countInstruction_script (s : State) : (s.countInstruction).script = s.script := rfl

@[simp] theorem State.setNZ_cpu (s : State) (v : Byte) : (s.setNZ v).cpu = { s.cpu with p := s.cpu.p.setNZ v } := rfl
@[simp] theorem State.setNZ_cfg (s : State) (v : Byte) : (s.setNZ v).cfg = s.cfg := rfl
@[simp] theorem State.setNZ_bus (s : State) (v : Byte) : (s.setNZ v).bus = s.bus := rfl
@[simp] theorem State.setNZ_video (s : State) (v : Byte) : (s.setNZ v).video = s.video := rfl
@[simp] theorem State.setNZ_emu (s : State) (v : Byte) : (s.setNZ v).emu = s.emu := rfl
@[simp] theorem State.setNZ_pins (s : State) (v : Byte) : (s.setNZ v).pins = s.pins := rfl
@[simp] theorem State.setNZ_ext (s : State) (v : Byte) : (s.setNZ v).ext = s.ext := rfl
@[simp] theorem State.setNZ_script (s : State) (v : Byte) : (s.setNZ v).script = s.script := rfl

@[simp] theorem Flags.setNZ_n (f : Flags) (v : Byte) : (f.setNZ v).n = testBit v 7 := rfl
@[simp] theorem Flags.setNZ_v (f : Flags) (v : Byte) : (f.setNZ v).v = f.v := rfl
@[simp] theorem Flags.setNZ_b (f : Flags) (v : Byte) : (f.setNZ v).b = f.b := rfl
@[simp] theorem Flags.setNZ_d (f : Flags) (v : Byte) : (f.setNZ v).d = f.d := rfl
@[simp] theorem Flags.setNZ_i (f : Flags) (v : Byte) : (f.setNZ v).i = f.i := rfl
@[simp] theorem Flags.setNZ_z (f : Flags) (v : Byte) : (f.setNZ v).z = decide (v = 0) := rfl
@[simp] theorem Flags.setNZ_c (f : Flags) (v : Byte) : (f.setNZ v).c = f.c := rfl

@[simp] theorem Flags.unpack_n (v : Byte) : (Flags.unpack v).n = testBit v 7 := rfl
@[simp] theorem Flags.unpack_v (v : Byte) : (Flags.unpack v).v = testBit v 6 := rfl
@[simp] theorem Flags.unpack_b (v : Byte) : (Flags.unpack v).b = testBit v 4 := rfl
@[simp] theorem Flags.unpack_d (v : Byte) : (Flags.unpack v).d = testBit v 3 := rfl
@[simp] theorem Flags.unpack_i (v : Byte) : (Flags.unpack v).i = testBit v 2 := rfl
@[simp] theorem Flags.unpack_z (v : Byte) : (Flags.unpack v).z = testBit v 1 := rfl
@[simp] theorem Flags.unpack_c (v : Byte) : (Flags.unpack v).c = testBit v 0 := rfl

/-- Storing the packed status gives the flags back (`10_state.md` R41). -/
@[simp] theorem Flags.unpack_pack (f : Flags) : Flags.unpack f.pack = f := by
  obtain ⟨n, v, b, d, i, z, c⟩ := f
  revert n v b d i z c
  decide

end Sys2Proof.Machine
end

