-- ==== Sys2Proof/Laws/Bus.lean ====
section
/-! SUPPORT. What a read and a write on the BUS can do (`20_memory.md` R100 to R114): the components they leave alone,
their cases, and their effect on the RAM and ROM cells. -/

namespace Sys2Proof.Machine

open Sys2Proof.Config

/-! ### Reads -/

/-- Outside the I/O page a read changes nothing (R100). -/
theorem memRead_of_not_io {a : Word} (h : region a ≠ .io) (s : State) : memRead a s = (s.cell a, s) := by
  unfold memRead
  split
  · contradiction
  · rfl

/-- In the I/O page a read goes to a device (R102). -/
theorem memRead_of_io {a : Word} (h : region a = .io) (s : State) : memRead a s = ioRead (loByte a) s := by
  unfold memRead
  rw [h]

/-- All that a read can change: a data port moves its cursor, an external device is asked (R114). -/
theorem videoRead_cases (reg : Nat) (s : State) :
    (videoRead reg s).2 = s ∨
    (∃ port, videoReg reg = .data port ∧
      (videoRead reg s).2 = { s with video := s.video.advance (s.video.portCursor s.cfg port) }) ∨
    (∃ dev r, (videoRead reg s).2 = { s with ext := .read dev r :: s.ext }) := by
  unfold videoRead
  split
  · next port h => exact .inr (.inl ⟨port, h, rfl⟩)
  · next k _ => exact .inr (.inr ⟨_, k, rfl⟩)
  · next k _ => exact .inr (.inr ⟨_, k, rfl⟩)
  · exact .inl rfl

theorem memRead_cases (a : Word) (s : State) :
    (memRead a s).2 = s ∨
    (∃ port, region a = .io ∧ ioDevice (loByte a) = .video ∧ videoReg (low5 (loByte a)) = .data port ∧
      (memRead a s).2 = { s with video := s.video.advance (s.video.portCursor s.cfg port) }) ∨
    (∃ dev r, region a = .io ∧ (memRead a s).2 = { s with ext := .read dev r :: s.ext }) := by
  by_cases h : region a = .io
  · rw [memRead_of_io h]
    cases hd : ioDevice (loByte a) <;> simp only [ioRead, hd]
    case video =>
      rcases videoRead_cases (low5 (loByte a)) s with e | ⟨p, hp, e⟩ | ⟨d, r, e⟩
      · exact .inl e
      · exact .inr (.inl ⟨p, h, trivial, hp, e⟩)
      · exact .inr (.inr ⟨d, r, h, e⟩)
    case audio => exact .inr (.inr ⟨_, _, h, rfl⟩)
    case via1 => exact .inr (.inr ⟨_, _, h, rfl⟩)
    case via2 => exact .inr (.inr ⟨_, _, h, rfl⟩)
    all_goals exact .inl trivial
  · exact .inl (by rw [memRead_of_not_io h])

@[simp] theorem Video.setCursor_vram (v : Video) (one : Bool) (c : Cursor) : (v.setCursor one c).vram = v.vram := by
  cases one <;> rfl

@[simp] theorem Video.reloadLatch_vram (v : Video) (one : Bool) : (v.reloadLatch one).vram = v.vram :=
  Video.setCursor_vram _ _ _

@[simp] theorem Video.advance_vram (v : Video) (one : Bool) : (v.advance one).vram = v.vram := by
  simp [Video.advance]

@[simp] theorem memRead_cfg (a : Word) (s : State) : (memRead a s).2.cfg = s.cfg := by
  rcases memRead_cases a s with e | ⟨_, _, _, _, e⟩ | ⟨_, _, _, e⟩ <;> rw [e]

@[simp] theorem memRead_cpu (a : Word) (s : State) : (memRead a s).2.cpu = s.cpu := by
  rcases memRead_cases a s with e | ⟨_, _, _, _, e⟩ | ⟨_, _, _, e⟩ <;> rw [e]

@[simp] theorem memRead_bus (a : Word) (s : State) : (memRead a s).2.bus = s.bus := by
  rcases memRead_cases a s with e | ⟨_, _, _, _, e⟩ | ⟨_, _, _, e⟩ <;> rw [e]

@[simp] theorem memRead_emu (a : Word) (s : State) : (memRead a s).2.emu = s.emu := by
  rcases memRead_cases a s with e | ⟨_, _, _, _, e⟩ | ⟨_, _, _, e⟩ <;> rw [e]

@[simp] theorem memRead_pins (a : Word) (s : State) : (memRead a s).2.pins = s.pins := by
  rcases memRead_cases a s with e | ⟨_, _, _, _, e⟩ | ⟨_, _, _, e⟩ <;> rw [e]

@[simp] theorem memRead_script (a : Word) (s : State) : (memRead a s).2.script = s.script := by
  rcases memRead_cases a s with e | ⟨_, _, _, _, e⟩ | ⟨_, _, _, e⟩ <;> rw [e]

@[simp] theorem memRead_vram (a : Word) (s : State) : (memRead a s).2.video.vram = s.video.vram := by
  rcases memRead_cases a s with e | ⟨_, _, _, _, e⟩ | ⟨_, _, _, e⟩ <;> simp [e]

/-- A cell depends on the parameters and the BUS only. -/
theorem State.cell_congr {s t : State} (hc : t.cfg = s.cfg) (hb : t.bus = s.bus) (a : Word) : t.cell a = s.cell a := by
  simp only [State.cell, hc, hb]

/-- A read changes no cell. -/
@[simp] theorem memRead_cell (a b : Word) (s : State) : (memRead a s).2.cell b = s.cell b :=
  State.cell_congr (memRead_cfg a s) (memRead_bus a s) b

/-! ### Writes -/

/-- A write that reaches a register of the CORE in VIDEO: the register file, or a data port (R362, R374). -/
theorem videoWrite_cases (reg : Nat) (v : Byte) (s : State) :
    (∃ port, videoReg reg = .data port ∧ videoWrite reg v s = dataPortWrite port v s) ∨
    (∃ dev r, videoWrite reg v s = { s with ext := .write dev r v :: s.ext }) ∨
    (∃ r, videoWrite reg v s = { s with video := s.video.regWrite s.cfg r v }) := by
  unfold videoWrite
  split
  · next port h => exact .inl ⟨port, h, rfl⟩
  · next k _ => exact .inr (.inl ⟨_, k, rfl⟩)
  · next k _ => exact .inr (.inl ⟨_, k, rfl⟩)
  · exact .inr (.inr ⟨_, rfl⟩)

/-- A data-port write changes the video memory and the cursor, and tells the sound generator at most (R370, R374). -/
theorem dataPortWrite_cases (port : Bool) (v : Byte) (s : State) :
    dataPortWrite port v s = { s with video := s.video.portWrite (s.video.portCursor s.cfg port) v } ∨
    (∃ r, dataPortWrite port v s =
      { s with video := s.video.portWrite (s.video.portCursor s.cfg port) v, ext := .write .psg r v :: s.ext }) := by
  unfold dataPortWrite
  dsimp only
  split
  · next r _ => exact .inr ⟨r, rfl⟩
  · exact .inl rfl

/-- All that a write can do (R101, R103, R115). -/
theorem memWrite_cases (a : Word) (v : Byte) (s : State) :
    memWrite a v s = s ∨
    (region a = .directRam ∧
      memWrite a v s = { s with bus := { s.bus with ram := s.bus.ram.write a.toNat v } }) ∨
    (region a = .bankedRam ∧
      memWrite a v s =
        { s with bus := { s.bus with bram := s.bus.bram.write (bramIndex s.cfg s.bus.ramBank a) v } }) ∨
    (region a = .io ∧ ∃ port, memWrite a v s = dataPortWrite port v s) ∨
    (region a = .io ∧ ∃ r, memWrite a v s = { s with video := s.video.regWrite s.cfg r v }) ∨
    (region a = .io ∧ ∃ dev r, memWrite a v s = { s with ext := .write dev r v :: s.ext }) ∨
    (region a = .io ∧ ∃ r, memWrite a v s = { s with emu := s.emu.write r v }) := by
  cases h : region a <;> simp only [memWrite, h]
  case null => exact .inl trivial
  case bankedRom => exact .inl trivial
  case directRam => exact .inr (.inl ⟨trivial, trivial⟩)
  case bankedRam => exact .inr (.inr (.inl ⟨trivial, trivial⟩))
  case io =>
    cases hd : ioDevice (loByte a) <;> simp only [ioWrite, hd]
    case video =>
      rcases videoWrite_cases (low5 (loByte a)) v s with ⟨p, _, e⟩ | ⟨d, r, e⟩ | ⟨r, e⟩
      · exact .inr (.inr (.inr (.inl ⟨trivial, p, e⟩)))
      · exact .inr (.inr (.inr (.inr (.inr (.inl ⟨trivial, d, r, e⟩)))))
      · exact .inr (.inr (.inr (.inr (.inl ⟨trivial, r, e⟩))))
    case audio => exact .inr (.inr (.inr (.inr (.inr (.inl ⟨trivial, _, _, rfl⟩)))))
    case via1 => exact .inr (.inr (.inr (.inr (.inr (.inl ⟨trivial, _, _, rfl⟩)))))
    case via2 => exact .inr (.inr (.inr (.inr (.inr (.inl ⟨trivial, _, _, rfl⟩)))))
    case emu => exact .inr (.inr (.inr (.inr (.inr (.inr ⟨trivial, _, rfl⟩)))))
    all_goals exact .inl trivial

@[simp] theorem dataPortWrite_cfg (p : Bool) (v : Byte) (s : State) : (dataPortWrite p v s).cfg = s.cfg := by
  rcases dataPortWrite_cases p v s with e | ⟨_, e⟩ <;> rw [e]

@[simp] theorem dataPortWrite_cpu (p : Bool) (v : Byte) (s : State) : (dataPortWrite p v s).cpu = s.cpu := by
  rcases dataPortWrite_cases p v s with e | ⟨_, e⟩ <;> rw [e]

@[simp] theorem dataPortWrite_bus (p : Bool) (v : Byte) (s : State) : (dataPortWrite p v s).bus = s.bus := by
  rcases dataPortWrite_cases p v s with e | ⟨_, e⟩ <;> rw [e]

@[simp] theorem dataPortWrite_pins (p : Bool) (v : Byte) (s : State) : (dataPortWrite p v s).pins = s.pins := by
  rcases dataPortWrite_cases p v s with e | ⟨_, e⟩ <;> rw [e]

@[simp] theorem dataPortWrite_script (p : Bool) (v : Byte) (s : State) :
    (dataPortWrite p v s).script = s.script := by
  rcases dataPortWrite_cases p v s with e | ⟨_, e⟩ <;> rw [e]

@[simp] theorem memWrite_cfg (a : Word) (v : Byte) (s : State) : (memWrite a v s).cfg = s.cfg := by
  rcases memWrite_cases a v s with e | ⟨_, e⟩ | ⟨_, e⟩ | ⟨_, _, e⟩ | ⟨_, _, e⟩ | ⟨_, _, _, e⟩ | ⟨_, _, e⟩ <;>
    simp [e]

@[simp] theorem memWrite_cpu (a : Word) (v : Byte) (s : State) : (memWrite a v s).cpu = s.cpu := by
  rcases memWrite_cases a v s with e | ⟨_, e⟩ | ⟨_, e⟩ | ⟨_, _, e⟩ | ⟨_, _, e⟩ | ⟨_, _, _, e⟩ | ⟨_, _, e⟩ <;>
    simp [e]

@[simp] theorem memWrite_pins (a : Word) (v : Byte) (s : State) : (memWrite a v s).pins = s.pins := by
  rcases memWrite_cases a v s with e | ⟨_, e⟩ | ⟨_, e⟩ | ⟨_, _, e⟩ | ⟨_, _, e⟩ | ⟨_, _, _, e⟩ | ⟨_, _, e⟩ <;>
    simp [e]

@[simp] theorem memWrite_script (a : Word) (v : Byte) (s : State) : (memWrite a v s).script = s.script := by
  rcases memWrite_cases a v s with e | ⟨_, e⟩ | ⟨_, e⟩ | ⟨_, _, e⟩ | ⟨_, _, e⟩ | ⟨_, _, _, e⟩ | ⟨_, _, e⟩ <;>
    simp [e]

/-- No write reaches the ROM (R106). -/
@[simp] theorem memWrite_rom (a : Word) (v : Byte) (s : State) : (memWrite a v s).bus.rom = s.bus.rom := by
  rcases memWrite_cases a v s with e | ⟨_, e⟩ | ⟨_, e⟩ | ⟨_, _, e⟩ | ⟨_, _, e⟩ | ⟨_, _, _, e⟩ | ⟨_, _, e⟩ <;>
    simp [e]

/-- No write reaches a bank register: they stand outside the address space (R96). -/
@[simp] theorem memWrite_ramBank (a : Word) (v : Byte) (s : State) :
    (memWrite a v s).bus.ramBank = s.bus.ramBank := by
  rcases memWrite_cases a v s with e | ⟨_, e⟩ | ⟨_, e⟩ | ⟨_, _, e⟩ | ⟨_, _, e⟩ | ⟨_, _, _, e⟩ | ⟨_, _, e⟩ <;>
    simp [e]

@[simp] theorem memWrite_romBank (a : Word) (v : Byte) (s : State) :
    (memWrite a v s).bus.romBank = s.bus.romBank := by
  rcases memWrite_cases a v s with e | ⟨_, e⟩ | ⟨_, e⟩ | ⟨_, _, e⟩ | ⟨_, _, e⟩ | ⟨_, _, _, e⟩ | ⟨_, _, e⟩ <;>
    simp [e]

/-- Outside the RAM regions a write leaves the BUS alone (R101, R103, R106). -/
theorem memWrite_bus_of_not_ram {a : Word} (v : Byte) (s : State)
    (h : ¬(region a = .directRam ∨ region a = .bankedRam)) : (memWrite a v s).bus = s.bus := by
  rcases memWrite_cases a v s with e | ⟨k, _⟩ | ⟨k, _⟩ | ⟨_, _, e⟩ | ⟨_, _, e⟩ | ⟨_, _, _, e⟩ | ⟨_, _, e⟩
  · rw [e]
  · exact absurd (.inl k) h
  · exact absurd (.inr k) h
  · rw [e, dataPortWrite_bus]
  all_goals rw [e]

/-! ### Addresses of the regions (R90, R91) -/

theorem hiByte_toNat (a : Word) : (hiByte a).toNat = a.toNat / 256 := by
  have h := a.isLt
  simp only [hiByte, BitVec.extractLsb'_toNat, Nat.shiftRight_eq_div_pow]
  omega

theorem loByte_toNat (a : Word) : (loByte a).toNat = a.toNat % 256 := by
  simp [loByte, BitVec.extractLsb'_toNat]

theorem wordOf_toNat (hi lo : Byte) : (wordOf hi lo).toNat = 256 * hi.toNat + lo.toNat := by
  have h := lo.isLt
  rw [wordOf, BitVec.toNat_append, Nat.shiftLeft_eq, Nat.mul_comm, ← Nat.two_pow_add_eq_or_of_lt h]

@[simp] theorem wordOf_hiByte_loByte (w : Word) : wordOf (hiByte w) (loByte w) = w := by
  apply BitVec.eq_of_toNat_eq
  rw [wordOf_toNat, hiByte_toNat, loByte_toNat]
  omega

@[simp] theorem hiByte_wordOf (hi lo : Byte) : hiByte (wordOf hi lo) = hi := by
  apply BitVec.eq_of_toNat_eq
  rw [hiByte_toNat, wordOf_toNat]
  have := lo.isLt
  omega

@[simp] theorem loByte_wordOf (hi lo : Byte) : loByte (wordOf hi lo) = lo := by
  apply BitVec.eq_of_toNat_eq
  rw [loByte_toNat, wordOf_toNat]
  have := lo.isLt
  omega

/-- The region of an address by its value (R90). -/
theorem region_eq (a : Word) :
    region a = if a.toNat < 0x9F00 then .directRam else if a.toNat < 0xA000 then .io
      else if a.toNat < 0xC000 then .bankedRam else .bankedRom := by
  simp only [region, regionOfHigh, hiByte_toNat]
  repeat' split
  all_goals first | rfl | omega

theorem region_directRam {a : Word} : region a = .directRam ↔ a.toNat < 0x9F00 := by
  rw [region_eq]
  repeat' split
  all_goals (simp; omega)

theorem region_io {a : Word} : region a = .io ↔ 0x9F00 ≤ a.toNat ∧ a.toNat < 0xA000 := by
  rw [region_eq]
  repeat' split
  all_goals (simp; omega)

theorem region_bankedRam {a : Word} : region a = .bankedRam ↔ 0xA000 ≤ a.toNat ∧ a.toNat < 0xC000 := by
  rw [region_eq]
  repeat' split
  all_goals (simp; omega)

theorem region_bankedRom {a : Word} : region a = .bankedRom ↔ 0xC000 ≤ a.toNat := by
  rw [region_eq]
  repeat' split
  all_goals (simp; omega)

/-- The index of a banked RAM address lies in the array (R105, R107). -/
theorem bramIndex_lt {cfg : Params} (h : 1 ≤ cfg.numRamBanks) (bank : Nat) {a : Word} (ha : region a = .bankedRam) :
    bramIndex cfg bank a < cfg.numRamBanks * 0x2000 := by
  rw [region_bankedRam] at ha
  have hm : bank % cfg.numRamBanks < cfg.numRamBanks := Nat.mod_lt _ h
  unfold bramIndex
  omega

/-- The index of a ROM address lies in the array (R106, R107). -/
theorem romIndex_lt {cfg : Params} (h : 1 ≤ cfg.numRomBanks) (bank : Nat) {a : Word} (ha : region a = .bankedRom) :
    romIndex cfg bank a < cfg.numRomBanks * 0x4000 := by
  rw [region_bankedRom] at ha
  have hm : bank % cfg.numRomBanks < cfg.numRomBanks := Nat.mod_lt _ h
  have := a.isLt
  unfold romIndex
  omega

/-- Two addresses of the banked RAM window select one byte of a bank only if they are equal. -/
theorem bramIndex_inj {cfg : Params} {bank : Nat} {a b : Word} (ha : region a = .bankedRam)
    (hb : region b = .bankedRam) (h : bramIndex cfg bank a = bramIndex cfg bank b) : a = b := by
  rw [region_bankedRam] at ha hb
  apply BitVec.eq_of_toNat_eq
  unfold bramIndex at h
  omega

/-- What every cell reads as after a write: the byte written at a RAM address, and nothing else changes (R104 to
R106). -/
theorem cell_memWrite (a b : Word) (v : Byte) (s : State) :
    (memWrite a v s).cell b =
      if b = a ∧ (region a = .directRam ∨ region a = .bankedRam) then v else s.cell b := by
  cases h : region a
  case directRam =>
    by_cases hb : b = a
    · subst hb
      simp [memWrite, State.cell, h]
    · have hne : b.toNat ≠ a.toNat := fun k => hb (BitVec.eq_of_toNat_eq k)
      simp only [memWrite, State.cell, h, hb, false_and, if_false]
      cases region b <;> simp only
      exact Memory.read_write_other _ _ hne
  case bankedRam =>
    by_cases hb : b = a
    · subst hb
      simp [memWrite, State.cell, h]
    · simp only [memWrite, State.cell, h, hb, false_and, if_false]
      cases hr : region b <;> simp only
      exact Memory.read_write_other _ _ fun k => hb (bramIndex_inj hr h k)
  all_goals
    rw [if_neg (by simp)]
    exact State.cell_congr (memWrite_cfg a v s) (memWrite_bus_of_not_ram v s (by simp [h])) b

end Sys2Proof.Machine
end

