-- ==== Sys2Proof/Laws/Ops.lean ====
section
/-! SUPPORT. What the named operations of the CPU do: the stack, 16-bit reads, the trap entries and the return, the
instruction fetch. Each lemma says the whole next state, so that its users need not unfold the operation. -/

namespace Sys2Proof.Machine

open Sys2Proof.Config

/-! ### The stack (`47_stack.md` R290) -/

theorem stackAddr_toNat (sp : Byte) : (stackAddr sp).toNat = 0x100 + sp.toNat := by
  have := sp.isLt
  simp only [stackAddr, zext16, BitVec.toNat_add, BitVec.toNat_setWidth, BitVec.toNat_ofNat]
  omega

/-- The stack page is plain RAM (`20_memory.md` R94). -/
theorem region_stackAddr (sp : Byte) : region (stackAddr sp) = .directRam := by
  have := sp.isLt
  rw [region_directRam, stackAddr_toNat]
  omega

/-- A push writes one byte of the stack page and moves `SP`; nothing else changes. -/
theorem push8_eq (v : Byte) (s : State) :
    push8 v s =
      { s with
        cpu := { s.cpu with sp := s.cpu.sp - 1 }
        bus := { s.bus with ram := s.bus.ram.write (0x100 + s.cpu.sp.toNat) v } } := by
  simp only [push8, memWrite, region_stackAddr, stackAddr_toNat, State.setSp]

/-- A pull moves `SP` and reads one byte of the stack page; nothing else changes. -/
theorem pull8_eq (s : State) :
    pull8 s = (s.bus.ram.read (0x100 + (s.cpu.sp + 1).toNat), s.setSp (s.cpu.sp + 1)) := by
  unfold pull8
  rw [memRead_of_not_io (by rw [region_stackAddr]; decide)]
  simp only [State.cell, region_stackAddr, stackAddr_toNat, State.setSp_bus, State.setSp_cpu]

/-- A 16-bit push: the high byte first, then the low byte below it. -/
theorem push16_eq (w : Word) (s : State) :
    push16 w s =
      { s with
        cpu := { s.cpu with sp := s.cpu.sp - 1 - 1 }
        bus := { s.bus with
          ram := (s.bus.ram.write (0x100 + s.cpu.sp.toNat) (hiByte w)).write
            (0x100 + (s.cpu.sp - 1).toNat) (loByte w) } } := by
  simp only [push16, push8_eq]

/-- A 16-bit pull: the low byte first, then the high byte above it. -/
theorem pull16_eq (s : State) :
    pull16 s =
      (wordOf (s.bus.ram.read (0x100 + (s.cpu.sp + 1 + 1).toNat)) (s.bus.ram.read (0x100 + (s.cpu.sp + 1).toNat)),
       s.setSp (s.cpu.sp + 1 + 1)) := by
  simp only [pull16, pull8_eq, State.setSp]

/-! ### 16-bit reads (`00_scope.md` R15) -/

/-- A 16-bit read outside the I/O page changes nothing. -/
theorem read16_of_not_io {a : Word} (h : region a ≠ .io) (h' : region (a + 1) ≠ .io) (s : State) :
    read16 a s = (wordOf (s.cell (a + 1)) (s.cell a), s) := by
  simp only [read16, memRead_of_not_io h, memRead_of_not_io h']

theorem zext16_toNat (z : Byte) : (zext16 z).toNat = z.toNat := by
  have := z.isLt
  simp only [zext16, BitVec.toNat_setWidth]
  omega

theorem region_zext16 (z : Byte) : region (zext16 z) = .directRam := by
  have := z.isLt
  rw [region_directRam, zext16_toNat]
  omega

/-- A zero-page byte is a byte of RAM (R94). -/
theorem readZp_eq (z : Byte) (s : State) : readZp z s = s.bus.ram.read z.toNat := by
  simp only [readZp, memRead_of_not_io (show region (zext16 z) ≠ .io by rw [region_zext16]; decide), State.cell,
    region_zext16, zext16_toNat]

theorem memRead_zext16 (z : Byte) (s : State) : memRead (zext16 z) s = (s.bus.ram.read z.toNat, s) := by
  simp only [memRead_of_not_io (show region (zext16 z) ≠ .io by rw [region_zext16]; decide), State.cell,
    region_zext16, zext16_toNat]

/-- A 16-bit read keeps all that a read keeps. -/
@[simp] theorem read16_cfg (a : Word) (s : State) : (read16 a s).2.cfg = s.cfg := by simp [read16]

@[simp] theorem read16_cpu (a : Word) (s : State) : (read16 a s).2.cpu = s.cpu := by simp [read16]

@[simp] theorem read16_bus (a : Word) (s : State) : (read16 a s).2.bus = s.bus := by simp [read16]

@[simp] theorem read16_pins (a : Word) (s : State) : (read16 a s).2.pins = s.pins := by simp [read16]

@[simp] theorem read16_script (a : Word) (s : State) : (read16 a s).2.script = s.script := by simp [read16]

/-! ### Traps (`60_exceptions.md` R550, R551; `46_jump_subroutine.md` R275, R276) -/

/-- The word at a vector: two bytes of ROM (R540, R110). -/
def vectorWord (k : Trap) (s : State) : Word := wordOf (s.cell (k.vector + 1)) (s.cell k.vector)

theorem read16_vector (k : Trap) (s : State) : read16 k.vector s = (vectorWord k s, s) := by
  apply read16_of_not_io <;> cases k <;> decide

/-- The RAM after the three pushes of a trap entry. -/
def trapRam (k : Trap) (s : State) : Memory :=
  let sp := s.cpu.sp
  let pc := k.returnPc s.cpu.pc
  ((s.bus.ram.write (0x100 + sp.toNat) (hiByte pc)).write (0x100 + (sp - 1).toNat) (loByte pc)).write
    (0x100 + (sp - 1 - 1).toNat) (k.pushedStatus s.cpu.p)

/-- The machine after a trap entry, before its last part: the return address and the status are on the stack, the
flags are the entry's, and `PC` is the vector's word. -/
theorem takeTrap_eq (k : Trap) (s : State) :
    takeTrap k s = k.finish
      { s with
        cpu := { s.cpu with
          sp := s.cpu.sp - 1 - 1 - 1
          p := k.entryFlags s.cpu.p
          pc := vectorWord k s }
        bus := { s.bus with ram := trapRam k s } } := by
  simp only [takeTrap, push16_eq, push8_eq, State.setP, read16_vector, State.setPc, trapRam]
  congr 1
  simp only [vectorWord, State.cell]
  cases k <;> rfl

/-- The return from a trap: status, then program counter, three bytes of the stack; nothing else changes. -/
theorem returnFromTrap_eq (s : State) :
    returnFromTrap s =
      { s with cpu := { s.cpu with
          sp := s.cpu.sp + 1 + 1 + 1
          p := Flags.unpack (s.bus.ram.read (0x100 + (s.cpu.sp + 1).toNat))
          pc := wordOf (s.bus.ram.read (0x100 + (s.cpu.sp + 1 + 1 + 1).toNat))
            (s.bus.ram.read (0x100 + (s.cpu.sp + 1 + 1).toNat)) } } := by
  simp only [returnFromTrap, pull8_eq, pull16_eq, State.setP, State.setSp, State.setPc]

/-! ### Fetching (`30_encoding.md` R140, R144) -/

/-- A fetch outside the I/O page gives the cell at `PC` and moves `PC`. -/
theorem fetch8_of_not_io {s : State} (h : region s.cpu.pc ≠ .io) :
    fetch8 s = (s.cell s.cpu.pc, s.setPc (s.cpu.pc + 1)) := by
  simp only [fetch8, memRead_of_not_io h]

end Sys2Proof.Machine
end

