-- ==== Sys2Proof/Laws/Closed.lean ====
section
/-! SUPPORT. Invariants, once: a property of states that the updates of the CPU, the reads and the writes keep is kept by
every instruction, and every instruction answers a next state. The same for the step, with what the host and VIDEO do. -/

namespace Sys2Proof.Machine

open Sys2Proof.Config

/-- The property survives any change of the CPU's own registers, every read and every write. -/
structure CpuClosed (P : State → Prop) : Prop where
  cpu : ∀ s c, P s → P { s with cpu := c }
  read : ∀ a s, P s → P (memRead a s).2
  write : ∀ a v s, P s → P (memWrite a v s)

namespace CpuClosed

variable {P : State → Prop} (h : CpuClosed P)
include h

/-- A state that differs from a good one in the CPU only is good. -/
theorem of_cpu {s t : State} (hs : P s) (e : t = { s with cpu := t.cpu }) : P t := e ▸ h.cpu s _ hs

theorem push8 (v : Byte) {s : State} (hs : P s) : P (push8 v s) := h.cpu _ _ (h.write _ _ _ hs)

theorem push16 (w : Word) {s : State} (hs : P s) : P (push16 w s) := h.push8 _ (h.push8 _ hs)

theorem pull8 {s : State} (hs : P s) : P (pull8 s).2 := h.read _ _ (h.cpu _ _ hs)

theorem pull16 {s : State} (hs : P s) : P (pull16 s).2 := h.pull8 (h.pull8 hs)

theorem read16 (a : Word) {s : State} (hs : P s) : P (read16 a s).2 := h.read _ _ (h.read _ _ hs)

theorem takeTrap (k : Trap) {s : State} (hs : P s) : P (takeTrap k s) := by
  have hf : ∀ t, P t → P (k.finish t) := by
    intro t ht
    cases k
    · exact h.of_cpu ht rfl
    · exact h.of_cpu ht rfl
    · exact ht
  have hp := h.push16 (k.returnPc s.cpu.pc) hs
  have hq := h.push8 (k.pushedStatus (Machine.push16 (k.returnPc s.cpu.pc) s).cpu.p) hp
  exact hf _ (h.cpu _ _ (h.read16 k.vector (h.cpu _ _ hq)))

theorem cpuReset {s : State} (hs : P s) : P (cpuReset s) :=
  h.cpu _ _ (h.read16 0xFFFC#16 (h.of_cpu (t := (((((s.setA 0).setX 0).setY 0).setSp 0xFD#8).setWait false).setStopped
    false) hs rfl))

theorem returnFromTrap {s : State} (hs : P s) : P (returnFromTrap s) :=
  h.cpu _ _ (h.pull16 (h.cpu _ _ (h.pull8 hs)))

theorem fetch8 {s : State} (hs : P s) : P (fetch8 s).2 := h.cpu _ _ (h.read _ _ hs)

theorem fetchOperands (n : Nat) {s : State} (hs : P s) : P (fetchOperands n s).2 := by
  unfold Sys2Proof.Machine.fetchOperands
  split
  · exact hs
  · dsimp only
    split
    · exact h.fetch8 hs
    · exact h.fetch8 (h.fetch8 hs)

theorem fetchInstr {s : State} (hs : P s) : P (fetchInstr s).2 := h.fetchOperands _ (h.cpu _ _ (h.fetch8 hs))

theorem operand (o : Operand) {s : State} (hs : P s) : P (o.read s).2 := by
  cases o with
  | imm v => exact hs
  | mem m => exact h.read _ _ hs

theorem reading (op : Nat) (o : Operand) (f : Byte → State → State) (hf : ∀ v t, P t → P (f v t)) {s : State}
    (hs : P s) : ∃ t, readingInstr op o f s = .next t ∧ P t :=
  ⟨_, rfl, h.cpu _ _ (hf _ _ (h.operand o hs))⟩

theorem storing (op : Nat) (m : AddrMode) (v : Byte) {s : State} (hs : P s) :
    ∃ t, storingInstr op m v s = .next t ∧ P t := ⟨_, rfl, h.cpu _ _ (h.write _ _ _ hs)⟩

theorem modifying (op : Nat) (t : Target) (f : Byte → Flags → FlaggedByte) {s : State} (hs : P s) :
    ∃ t', modifyingInstr op t f s = .next t' ∧ P t' := by
  cases t with
  | acc => exact ⟨_, rfl, h.of_cpu hs rfl⟩
  | mem m => exact ⟨_, rfl, h.of_cpu (h.write _ _ _ (h.read _ _ hs)) rfl⟩

theorem implied (op : Nat) (f : State → State) {s : State} (hf : P (f s)) :
    ∃ t, impliedInstr op f s = .next t ∧ P t := ⟨_, rfl, h.cpu _ _ hf⟩

theorem branch (op : Nat) (r : Byte) (taken : Bool) {s : State} (hs : P s) :
    ∃ t, branchInstr op r taken s = .next t ∧ P t := by
  cases taken <;> exact ⟨_, rfl, h.of_cpu hs rfl⟩

theorem bitBranch (op n : Nat) (w : Bool) (z r : Byte) {s : State} (hs : P s) :
    ∃ t, bitBranchInstr op n w z r s = .next t ∧ P t := h.branch _ _ _ (h.read _ _ hs)

theorem jump (op : Nat) (p : Word) {s : State} (hs : P s) : ∃ t, jumpIndirect op p s = .next t ∧ P t :=
  ⟨_, rfl, h.cpu _ _ (h.cpu _ _ (h.read16 p hs))⟩

theorem unmapped (op : Nat) {s : State} (hs : P s) : ∃ t, unmappedInstr op s = .next t ∧ P t :=
  h.implied _ _ (h.cpu _ _ hs)

theorem loadA (op : Nat) (o : Operand) {s : State} (hs : P s) :
    ∃ t, Machine.loadA op o s = .next t ∧ P t :=
  h.reading _ _ _ (fun _ _ ht => h.of_cpu ht rfl) hs

theorem loadX (op : Nat) (o : Operand) {s : State} (hs : P s) :
    ∃ t, Machine.loadX op o s = .next t ∧ P t :=
  h.reading _ _ _ (fun _ _ ht => h.of_cpu ht rfl) hs

theorem loadY (op : Nat) (o : Operand) {s : State} (hs : P s) :
    ∃ t, Machine.loadY op o s = .next t ∧ P t :=
  h.reading _ _ _ (fun _ _ ht => h.of_cpu ht rfl) hs

theorem accumulate (f : Byte → Byte → Flags → FlaggedByte) (op : Nat) (o : Operand) {s : State} (hs : P s) :
    ∃ t, Machine.accumulate f op o s = .next t ∧ P t :=
  h.reading _ _ _ (fun _ _ ht => h.of_cpu ht rfl) hs

theorem combine (f : Byte → Byte → Byte) (op : Nat) (o : Operand) {s : State} (hs : P s) :
    ∃ t, Machine.combine f op o s = .next t ∧ P t :=
  h.reading _ _ _ (fun _ _ ht => h.of_cpu ht rfl) hs

theorem compareWith (reg : Byte) (op : Nat) (o : Operand) {s : State} (hs : P s) :
    ∃ t, Machine.compareWith reg op o s = .next t ∧ P t :=
  h.reading _ _ _ (fun _ _ ht => h.of_cpu ht rfl) hs

theorem bitMemory (op : Nat) (m : AddrMode) {s : State} (hs : P s) :
    ∃ t, Machine.bitMemoryInstr op m s = .next t ∧ P t :=
  h.reading _ _ _ (fun _ _ ht => h.of_cpu ht rfl) hs

theorem bitImmediate (op : Nat) (v : Byte) {s : State} (hs : P s) :
    ∃ t, Machine.bitImmediateInstr op v s = .next t ∧ P t :=
  h.reading _ _ _ (fun _ _ ht => h.of_cpu ht rfl) hs

theorem bitModify (op : Nat) (f : Byte → Byte) (z : Byte) {s : State} (hs : P s) :
    ∃ t, bitModifyInstr op f z s = .next t ∧ P t := h.modifying _ _ _ hs

/-- Every instruction answers a next state, and the property holds of it. -/
theorem exec (i : Instr) {s : State} (hs : P s) : ∃ t, exec i s = .next t ∧ P t := by
  cases i <;> simp only [Machine.exec]
  case brk => exact h.implied _ _ (h.takeTrap _ hs)
  case rti => exact h.implied _ _ (h.returnFromTrap hs)
  case jsr a => exact h.implied _ _ (h.of_cpu (h.push16 _ hs) rfl)
  case rts => exact h.implied _ _ (h.of_cpu (h.pull16 hs) rfl)
  case nop => exact h.implied 0xEA (fun s => s) hs
  case unmappedDB =>
    show ∃ t, execUnmappedDB s = .next t ∧ P t
    unfold execUnmappedDB
    split
    · exact h.unmapped _ hs
    · exact ⟨_, rfl, h.of_cpu hs rfl⟩
  case ldaIndX | ldaZp | ldaImm | ldaAbs | ldaIndY | ldaIzp | ldaZpX | ldaAbsY | ldaAbsX =>
    exact h.loadA _ _ hs
  case ldxImm | ldxZp | ldxAbs | ldxZpY | ldxAbsY =>
    exact h.loadX _ _ hs
  case ldyImm | ldyZp | ldyAbs | ldyZpX | ldyAbsX =>
    exact h.loadY _ _ hs
  case staIndX | staZp | staAbs | staIndY | staIzp | staZpX | staAbsY | staAbsX | stxZp | stxAbs | stxZpY | styZp |
      styAbs | styZpX | stzZp | stzZpX | stzAbs | stzAbsX =>
    exact h.storing _ _ _ hs
  case adcIndX | adcZp | adcImm | adcAbs | adcIndY | adcIzp | adcZpX | adcAbsY | adcAbsX | sbcIndX | sbcZp | sbcImm
      | sbcAbs | sbcIndY | sbcIzp | sbcZpX | sbcAbsY | sbcAbsX =>
    exact h.accumulate _ _ _ hs
  case incAcc | incZp | incAbs | incZpX | incAbsX | decAcc | decZp | decAbs | decZpX | decAbsX | aslZp | aslAcc |
      aslAbs | aslZpX | aslAbsX | lsrZp | lsrAcc | lsrAbs | lsrZpX | lsrAbsX | rolZp | rolAcc | rolAbs | rolZpX |
      rolAbsX | rorZp | rorAcc | rorAbs | rorZpX | rorAbsX | trbZp | trbAbs | tsbZp | tsbAbs =>
    exact h.modifying _ _ _ hs
  case inx | iny | dex | dey | jmpAbs | clc | sec | cli | sei | cld | sed | clv | tax | tay | txa | tya | tsx | txs
      | wai =>
    exact h.implied _ _ (h.of_cpu hs rfl)
  case andIndX | andZp | andImm | andAbs | andIndY | andIzp | andZpX | andAbsY | andAbsX | oraIndX | oraZp | oraImm
      | oraAbs | oraIndY | oraIzp | oraZpX | oraAbsY | oraAbsX | eorIndX | eorZp | eorImm | eorAbs | eorIndY |
      eorIzp | eorZpX | eorAbsY | eorAbsX =>
    exact h.combine _ _ _ hs
  case cmpIndX | cmpZp | cmpImm | cmpAbs | cmpIndY | cmpIzp | cmpZpX | cmpAbsY | cmpAbsX | cpxImm | cpxZp | cpxAbs |
      cpyImm | cpyZp | cpyAbs =>
    exact h.compareWith _ _ _ hs
  case bcc | bcs | beq | bne | bmi | bpl | bvc | bvs | bra =>
    exact h.branch _ _ _ hs
  case bbr0 | bbr1 | bbr2 | bbr3 | bbr4 | bbr5 | bbr6 | bbr7 | bbs0 | bbs1 | bbs2 | bbs3 | bbs4 | bbs5 | bbs6 | bbs7
      =>
    exact h.bitBranch _ _ _ _ _ hs
  case jmpInd | jmpAix =>
    exact h.jump _ _ hs
  case pha | php | phx | phy =>
    exact h.implied _ _ (h.push8 _ hs)
  case pla | plx | plp | ply =>
    exact h.implied _ _ (h.of_cpu (h.pull8 hs) rfl)
  case bitZp | bitAbs | bitZpX | bitAbsX =>
    exact h.bitMemory _ _ hs
  case bitImm =>
    exact h.bitImmediate _ _ hs
  case rmb0 | rmb1 | rmb2 | rmb3 | rmb4 | rmb5 | rmb6 | rmb7 | smb0 | smb1 | smb2 | smb3 | smb4 | smb5 | smb6 | smb7
      =>
    exact h.bitModify _ _ _ hs
  case unmapped02 | unmapped03 | unmapped0B | unmapped13 | unmapped1B | unmapped22 | unmapped23 | unmapped2B |
      unmapped33 | unmapped3B | unmapped42 | unmapped43 | unmapped44 | unmapped4B | unmapped53 | unmapped54 |
      unmapped5B | unmapped5C | unmapped62 | unmapped63 | unmapped6B | unmapped73 | unmapped7B | unmapped82 |
      unmapped83 | unmapped8B | unmapped93 | unmapped9B | unmappedA3 | unmappedAB | unmappedB3 | unmappedBB |
      unmappedC2 | unmappedC3 | unmappedD3 | unmappedD4 | unmappedDC | unmappedE2 | unmappedE3 | unmappedEB |
      unmappedF3 | unmappedF4 | unmappedFB | unmappedFC =>
    exact h.unmapped _ hs

end CpuClosed

/-- The property survives all that a step can do: the CPU, the inputs, the host's actions, the video steps. -/
structure StepClosed (P : State → Prop) : Prop extends CpuClosed P where
  pins : ∀ s p, P s → P { s with pins := p }
  script : ∀ s l, P s → P { s with script := l }
  ramBank : ∀ s v, P s → P (setRamBank v s)
  romBank : ∀ s v, P s → P (setRomBank v s)
  videoReset : ∀ s, P s → P { s with video := s.video.reset s.cfg }
  videoStep : ∀ s, P s → P { s with video := s.video.step s.cfg }

namespace StepClosed

variable {P : State → Prop} (h : StepClosed P)
include h

theorem videoSteps (n : Nat) {s : State} (hs : P s) : P (videoSteps n s) := by
  induction n generalizing s with
  | zero => exact hs
  | succ n ih => exact ih (h.videoStep s hs)

theorem hostOp (op : HostOp) {s : State} (hs : P s) : P (op.apply s) := by
  cases op with
  | setExtIrq l => exact h.pins _ _ hs
  | setPcmFifoLow l => exact h.pins _ _ hs
  | requestNmi => exact h.pins _ _ hs
  | setRamBank v => exact h.ramBank _ v hs
  | setRomBank v => exact h.romBank _ v hs
  | cpuReset => exact h.cpuReset hs
  | videoReset => exact h.videoReset _ hs
  | irq => exact h.takeTrap .irq hs
  | nmi => exact h.takeTrap .nmi hs
  | videoSteps n => exact h.videoSteps n hs

theorem hostOps (ops : List HostOp) {s : State} (hs : P s) : P (ops.foldl (fun s op => op.apply s) s) := by
  induction ops generalizing s with
  | nil => exact hs
  | cons op ops ih => exact ih (h.hostOp op hs)

theorem hostPhase {s : State} (hs : P s) : P (hostPhase s) := by
  unfold Sys2Proof.Machine.hostPhase
  split
  · exact hs
  · exact h.hostOps _ (h.script _ _ hs)

theorem poll {s : State} (hs : P s) : P (poll s) := by
  unfold Sys2Proof.Machine.poll
  split
  · exact h.pins _ _ (h.takeTrap _ hs)
  · split
    · exact h.takeTrap _ hs
    · exact hs

theorem cpuStep {s : State} (hs : P s) : ∃ t, cpuStepWith Sys2Proof.Machine.exec s = .next t ∧ P t := by
  unfold cpuStepWith
  split
  · exact ⟨_, rfl, h.cpu _ _ hs⟩
  · exact h.toCpuClosed.exec _ (h.fetchInstr hs)

theorem tick {s : State} (hs : P s) : ∃ t, tickWith Sys2Proof.Machine.exec s = .next t ∧ P t := by
  obtain ⟨t, ht, hp⟩ := h.cpuStep (h.poll hs)
  unfold tickWith
  split
  · exact ⟨_, by rw [machineTickWith, cpuTickWith, ht]; rfl, h.videoSteps _ hp⟩
  · exact ⟨t, ht, hp⟩
  · exact h.cpuStep hs

/-- A step of a machine with a legal configuration answers a next state, and the property holds of it. -/
theorem step {s : State} (hc : s.cfg.wellFormed) (hs : P s) : ∃ t, step s = .next t ∧ P t := by
  unfold Sys2Proof.Machine.step stepWith
  rw [if_pos hc]
  exact h.tick (h.hostPhase hs)

/-- A step that answers a next state keeps the property. -/
theorem step_keeps {s t : State} (hs : P s) (hst : Sys2Proof.Machine.step s = .next t) : P t := by
  by_cases hc : s.cfg.wellFormed
  · obtain ⟨u, hu, hp⟩ := h.step hc hs
    rw [hu] at hst
    cases hst
    exact hp
  · simp [Sys2Proof.Machine.step, stepWith, hc] at hst

end StepClosed

/-! ### The loop of `exec(budget)` (`60_exceptions.md` R558) -/

/-- Where the loop ends, its goal is reached, and any larger number of steps gives the same end. -/
theorem execLoopWith_ends {run : Instr → State → Result} {steps : Nat} {s t : State}
    (h : execLoopWith run steps s = .next t) :
    goalAhead t = false ∧ ∀ more, execLoopWith run (steps + more) s = .next t := by
  induction steps generalizing s with
  | zero =>
    unfold execLoopWith at h
    split at h
    · cases h
    · next hg =>
      cases h
      refine ⟨by simpa using hg, fun more => ?_⟩
      unfold execLoopWith
      rw [if_neg hg]
  | succ n ih =>
    unfold execLoopWith at h
    split at h
    · next hg =>
      dsimp only at h
      split at h
      · next u hu =>
        refine ⟨(ih h).1, fun more => ?_⟩
        rw [Nat.add_right_comm]
        unfold execLoopWith
        rw [if_pos hg]
        dsimp only
        rw [hu]
        exact (ih h).2 more
      · cases h
      · cases h
    · next hg =>
      cases h
      refine ⟨by simpa using hg, fun more => ?_⟩
      unfold execLoopWith
      rw [if_neg hg]

end Sys2Proof.Machine
end

