-- ==== Sys2Proof/Laws/PerInstr.lean ====
section
/-! SUPPORT. One fact about every instruction as syntax: its encoding is its opcode byte and as many operand bytes as the
opcode alone says (`30_encoding.md` R142). -/

namespace Sys2Proof.Laws

/-- The encoding starts with an opcode byte and is as long as that byte alone decides. -/
def EncodedLength.Statement (i : Instr) : Prop :=
  ∃ op rest, encode i = op :: rest ∧ rest.length + 1 = opcodeLength op

theorem EncodedLength.ldaIndX (z : Byte) : EncodedLength.Statement (.ldaIndX z) := ⟨_, _, rfl, rfl⟩
theorem EncodedLength.ldaZp (z : Byte) : EncodedLength.Statement (.ldaZp z) := ⟨_, _, rfl, rfl⟩
theorem EncodedLength.ldaImm (v : Byte) : EncodedLength.Statement (.ldaImm v) := ⟨_, _, rfl, rfl⟩
theorem EncodedLength.ldaAbs (a : Word) : EncodedLength.Statement (.ldaAbs a) := ⟨_, _, rfl, rfl⟩
theorem EncodedLength.ldaIndY (z : Byte) : EncodedLength.Statement (.ldaIndY z) := ⟨_, _, rfl, rfl⟩
theorem EncodedLength.ldaIzp (z : Byte) : EncodedLength.Statement (.ldaIzp z) := ⟨_, _, rfl, rfl⟩
theorem EncodedLength.ldaZpX (z : Byte) : EncodedLength.Statement (.ldaZpX z) := ⟨_, _, rfl, rfl⟩
theorem EncodedLength.ldaAbsY (a : Word) : EncodedLength.Statement (.ldaAbsY a) := ⟨_, _, rfl, rfl⟩
theorem EncodedLength.ldaAbsX (a : Word) : EncodedLength.Statement (.ldaAbsX a) := ⟨_, _, rfl, rfl⟩
theorem EncodedLength.ldxImm (v : Byte) : EncodedLength.Statement (.ldxImm v) := ⟨_, _, rfl, rfl⟩
theorem EncodedLength.ldxZp (z : Byte) : EncodedLength.Statement (.ldxZp z) := ⟨_, _, rfl, rfl⟩
theorem EncodedLength.ldxAbs (a : Word) : EncodedLength.Statement (.ldxAbs a) := ⟨_, _, rfl, rfl⟩
theorem EncodedLength.ldxZpY (z : Byte) : EncodedLength.Statement (.ldxZpY z) := ⟨_, _, rfl, rfl⟩
theorem EncodedLength.ldxAbsY (a : Word) : EncodedLength.Statement (.ldxAbsY a) := ⟨_, _, rfl, rfl⟩
theorem EncodedLength.ldyImm (v : Byte) : EncodedLength.Statement (.ldyImm v) := ⟨_, _, rfl, rfl⟩
theorem EncodedLength.ldyZp (z : Byte) : EncodedLength.Statement (.ldyZp z) := ⟨_, _, rfl, rfl⟩
theorem EncodedLength.ldyAbs (a : Word) : EncodedLength.Statement (.ldyAbs a) := ⟨_, _, rfl, rfl⟩
theorem EncodedLength.ldyZpX (z : Byte) : EncodedLength.Statement (.ldyZpX z) := ⟨_, _, rfl, rfl⟩
theorem EncodedLength.ldyAbsX (a : Word) : EncodedLength.Statement (.ldyAbsX a) := ⟨_, _, rfl, rfl⟩
theorem EncodedLength.staIndX (z : Byte) : EncodedLength.Statement (.staIndX z) := ⟨_, _, rfl, rfl⟩
theorem EncodedLength.staZp (z : Byte) : EncodedLength.Statement (.staZp z) := ⟨_, _, rfl, rfl⟩
theorem EncodedLength.staAbs (a : Word) : EncodedLength.Statement (.staAbs a) := ⟨_, _, rfl, rfl⟩
theorem EncodedLength.staIndY (z : Byte) : EncodedLength.Statement (.staIndY z) := ⟨_, _, rfl, rfl⟩
theorem EncodedLength.staIzp (z : Byte) : EncodedLength.Statement (.staIzp z) := ⟨_, _, rfl, rfl⟩
theorem EncodedLength.staZpX (z : Byte) : EncodedLength.Statement (.staZpX z) := ⟨_, _, rfl, rfl⟩
theorem EncodedLength.staAbsY (a : Word) : EncodedLength.Statement (.staAbsY a) := ⟨_, _, rfl, rfl⟩
theorem EncodedLength.staAbsX (a : Word) : EncodedLength.Statement (.staAbsX a) := ⟨_, _, rfl, rfl⟩
theorem EncodedLength.stxZp (z : Byte) : EncodedLength.Statement (.stxZp z) := ⟨_, _, rfl, rfl⟩
theorem EncodedLength.stxAbs (a : Word) : EncodedLength.Statement (.stxAbs a) := ⟨_, _, rfl, rfl⟩
theorem EncodedLength.stxZpY (z : Byte) : EncodedLength.Statement (.stxZpY z) := ⟨_, _, rfl, rfl⟩
theorem EncodedLength.styZp (z : Byte) : EncodedLength.Statement (.styZp z) := ⟨_, _, rfl, rfl⟩
theorem EncodedLength.styAbs (a : Word) : EncodedLength.Statement (.styAbs a) := ⟨_, _, rfl, rfl⟩
theorem EncodedLength.styZpX (z : Byte) : EncodedLength.Statement (.styZpX z) := ⟨_, _, rfl, rfl⟩
theorem EncodedLength.stzZp (z : Byte) : EncodedLength.Statement (.stzZp z) := ⟨_, _, rfl, rfl⟩
theorem EncodedLength.stzZpX (z : Byte) : EncodedLength.Statement (.stzZpX z) := ⟨_, _, rfl, rfl⟩
theorem EncodedLength.stzAbs (a : Word) : EncodedLength.Statement (.stzAbs a) := ⟨_, _, rfl, rfl⟩
theorem EncodedLength.stzAbsX (a : Word) : EncodedLength.Statement (.stzAbsX a) := ⟨_, _, rfl, rfl⟩
theorem EncodedLength.adcIndX (z : Byte) : EncodedLength.Statement (.adcIndX z) := ⟨_, _, rfl, rfl⟩
theorem EncodedLength.adcZp (z : Byte) : EncodedLength.Statement (.adcZp z) := ⟨_, _, rfl, rfl⟩
theorem EncodedLength.adcImm (v : Byte) : EncodedLength.Statement (.adcImm v) := ⟨_, _, rfl, rfl⟩
theorem EncodedLength.adcAbs (a : Word) : EncodedLength.Statement (.adcAbs a) := ⟨_, _, rfl, rfl⟩
theorem EncodedLength.adcIndY (z : Byte) : EncodedLength.Statement (.adcIndY z) := ⟨_, _, rfl, rfl⟩
theorem EncodedLength.adcIzp (z : Byte) : EncodedLength.Statement (.adcIzp z) := ⟨_, _, rfl, rfl⟩
theorem EncodedLength.adcZpX (z : Byte) : EncodedLength.Statement (.adcZpX z) := ⟨_, _, rfl, rfl⟩
theorem EncodedLength.adcAbsY (a : Word) : EncodedLength.Statement (.adcAbsY a) := ⟨_, _, rfl, rfl⟩
theorem EncodedLength.adcAbsX (a : Word) : EncodedLength.Statement (.adcAbsX a) := ⟨_, _, rfl, rfl⟩
theorem EncodedLength.sbcIndX (z : Byte) : EncodedLength.Statement (.sbcIndX z) := ⟨_, _, rfl, rfl⟩
theorem EncodedLength.sbcZp (z : Byte) : EncodedLength.Statement (.sbcZp z) := ⟨_, _, rfl, rfl⟩
theorem EncodedLength.sbcImm (v : Byte) : EncodedLength.Statement (.sbcImm v) := ⟨_, _, rfl, rfl⟩
theorem EncodedLength.sbcAbs (a : Word) : EncodedLength.Statement (.sbcAbs a) := ⟨_, _, rfl, rfl⟩
theorem EncodedLength.sbcIndY (z : Byte) : EncodedLength.Statement (.sbcIndY z) := ⟨_, _, rfl, rfl⟩
theorem EncodedLength.sbcIzp (z : Byte) : EncodedLength.Statement (.sbcIzp z) := ⟨_, _, rfl, rfl⟩
theorem EncodedLength.sbcZpX (z : Byte) : EncodedLength.Statement (.sbcZpX z) := ⟨_, _, rfl, rfl⟩
theorem EncodedLength.sbcAbsY (a : Word) : EncodedLength.Statement (.sbcAbsY a) := ⟨_, _, rfl, rfl⟩
theorem EncodedLength.sbcAbsX (a : Word) : EncodedLength.Statement (.sbcAbsX a) := ⟨_, _, rfl, rfl⟩
theorem EncodedLength.incAcc : EncodedLength.Statement .incAcc := ⟨_, _, rfl, rfl⟩
theorem EncodedLength.incZp (z : Byte) : EncodedLength.Statement (.incZp z) := ⟨_, _, rfl, rfl⟩
theorem EncodedLength.incAbs (a : Word) : EncodedLength.Statement (.incAbs a) := ⟨_, _, rfl, rfl⟩
theorem EncodedLength.incZpX (z : Byte) : EncodedLength.Statement (.incZpX z) := ⟨_, _, rfl, rfl⟩
theorem EncodedLength.incAbsX (a : Word) : EncodedLength.Statement (.incAbsX a) := ⟨_, _, rfl, rfl⟩
theorem EncodedLength.decAcc : EncodedLength.Statement .decAcc := ⟨_, _, rfl, rfl⟩
theorem EncodedLength.decZp (z : Byte) : EncodedLength.Statement (.decZp z) := ⟨_, _, rfl, rfl⟩
theorem EncodedLength.decAbs (a : Word) : EncodedLength.Statement (.decAbs a) := ⟨_, _, rfl, rfl⟩
theorem EncodedLength.decZpX (z : Byte) : EncodedLength.Statement (.decZpX z) := ⟨_, _, rfl, rfl⟩
theorem EncodedLength.decAbsX (a : Word) : EncodedLength.Statement (.decAbsX a) := ⟨_, _, rfl, rfl⟩
theorem EncodedLength.inx : EncodedLength.Statement .inx := ⟨_, _, rfl, rfl⟩
theorem EncodedLength.iny : EncodedLength.Statement .iny := ⟨_, _, rfl, rfl⟩
theorem EncodedLength.dex : EncodedLength.Statement .dex := ⟨_, _, rfl, rfl⟩
theorem EncodedLength.dey : EncodedLength.Statement .dey := ⟨_, _, rfl, rfl⟩
theorem EncodedLength.andIndX (z : Byte) : EncodedLength.Statement (.andIndX z) := ⟨_, _, rfl, rfl⟩
theorem EncodedLength.andZp (z : Byte) : EncodedLength.Statement (.andZp z) := ⟨_, _, rfl, rfl⟩
theorem EncodedLength.andImm (v : Byte) : EncodedLength.Statement (.andImm v) := ⟨_, _, rfl, rfl⟩
theorem EncodedLength.andAbs (a : Word) : EncodedLength.Statement (.andAbs a) := ⟨_, _, rfl, rfl⟩
theorem EncodedLength.andIndY (z : Byte) : EncodedLength.Statement (.andIndY z) := ⟨_, _, rfl, rfl⟩
theorem EncodedLength.andIzp (z : Byte) : EncodedLength.Statement (.andIzp z) := ⟨_, _, rfl, rfl⟩
theorem EncodedLength.andZpX (z : Byte) : EncodedLength.Statement (.andZpX z) := ⟨_, _, rfl, rfl⟩
theorem EncodedLength.andAbsY (a : Word) : EncodedLength.Statement (.andAbsY a) := ⟨_, _, rfl, rfl⟩
theorem EncodedLength.andAbsX (a : Word) : EncodedLength.Statement (.andAbsX a) := ⟨_, _, rfl, rfl⟩
theorem EncodedLength.oraIndX (z : Byte) : EncodedLength.Statement (.oraIndX z) := ⟨_, _, rfl, rfl⟩
theorem EncodedLength.oraZp (z : Byte) : EncodedLength.Statement (.oraZp z) := ⟨_, _, rfl, rfl⟩
theorem EncodedLength.oraImm (v : Byte) : EncodedLength.Statement (.oraImm v) := ⟨_, _, rfl, rfl⟩
theorem EncodedLength.oraAbs (a : Word) : EncodedLength.Statement (.oraAbs a) := ⟨_, _, rfl, rfl⟩
theorem EncodedLength.oraIndY (z : Byte) : EncodedLength.Statement (.oraIndY z) := ⟨_, _, rfl, rfl⟩
theorem EncodedLength.oraIzp (z : Byte) : EncodedLength.Statement (.oraIzp z) := ⟨_, _, rfl, rfl⟩
theorem EncodedLength.oraZpX (z : Byte) : EncodedLength.Statement (.oraZpX z) := ⟨_, _, rfl, rfl⟩
theorem EncodedLength.oraAbsY (a : Word) : EncodedLength.Statement (.oraAbsY a) := ⟨_, _, rfl, rfl⟩
theorem EncodedLength.oraAbsX (a : Word) : EncodedLength.Statement (.oraAbsX a) := ⟨_, _, rfl, rfl⟩
theorem EncodedLength.eorIndX (z : Byte) : EncodedLength.Statement (.eorIndX z) := ⟨_, _, rfl, rfl⟩
theorem EncodedLength.eorZp (z : Byte) : EncodedLength.Statement (.eorZp z) := ⟨_, _, rfl, rfl⟩
theorem EncodedLength.eorImm (v : Byte) : EncodedLength.Statement (.eorImm v) := ⟨_, _, rfl, rfl⟩
theorem EncodedLength.eorAbs (a : Word) : EncodedLength.Statement (.eorAbs a) := ⟨_, _, rfl, rfl⟩
theorem EncodedLength.eorIndY (z : Byte) : EncodedLength.Statement (.eorIndY z) := ⟨_, _, rfl, rfl⟩
theorem EncodedLength.eorIzp (z : Byte) : EncodedLength.Statement (.eorIzp z) := ⟨_, _, rfl, rfl⟩
theorem EncodedLength.eorZpX (z : Byte) : EncodedLength.Statement (.eorZpX z) := ⟨_, _, rfl, rfl⟩
theorem EncodedLength.eorAbsY (a : Word) : EncodedLength.Statement (.eorAbsY a) := ⟨_, _, rfl, rfl⟩
theorem EncodedLength.eorAbsX (a : Word) : EncodedLength.Statement (.eorAbsX a) := ⟨_, _, rfl, rfl⟩
theorem EncodedLength.aslZp (z : Byte) : EncodedLength.Statement (.aslZp z) := ⟨_, _, rfl, rfl⟩
theorem EncodedLength.aslAcc : EncodedLength.Statement .aslAcc := ⟨_, _, rfl, rfl⟩
theorem EncodedLength.aslAbs (a : Word) : EncodedLength.Statement (.aslAbs a) := ⟨_, _, rfl, rfl⟩
theorem EncodedLength.aslZpX (z : Byte) : EncodedLength.Statement (.aslZpX z) := ⟨_, _, rfl, rfl⟩
theorem EncodedLength.aslAbsX (a : Word) : EncodedLength.Statement (.aslAbsX a) := ⟨_, _, rfl, rfl⟩
theorem EncodedLength.lsrZp (z : Byte) : EncodedLength.Statement (.lsrZp z) := ⟨_, _, rfl, rfl⟩
theorem EncodedLength.lsrAcc : EncodedLength.Statement .lsrAcc := ⟨_, _, rfl, rfl⟩
theorem EncodedLength.lsrAbs (a : Word) : EncodedLength.Statement (.lsrAbs a) := ⟨_, _, rfl, rfl⟩
theorem EncodedLength.lsrZpX (z : Byte) : EncodedLength.Statement (.lsrZpX z) := ⟨_, _, rfl, rfl⟩
theorem EncodedLength.lsrAbsX (a : Word) : EncodedLength.Statement (.lsrAbsX a) := ⟨_, _, rfl, rfl⟩
theorem EncodedLength.rolZp (z : Byte) : EncodedLength.Statement (.rolZp z) := ⟨_, _, rfl, rfl⟩
theorem EncodedLength.rolAcc : EncodedLength.Statement .rolAcc := ⟨_, _, rfl, rfl⟩
theorem EncodedLength.rolAbs (a : Word) : EncodedLength.Statement (.rolAbs a) := ⟨_, _, rfl, rfl⟩
theorem EncodedLength.rolZpX (z : Byte) : EncodedLength.Statement (.rolZpX z) := ⟨_, _, rfl, rfl⟩
theorem EncodedLength.rolAbsX (a : Word) : EncodedLength.Statement (.rolAbsX a) := ⟨_, _, rfl, rfl⟩
theorem EncodedLength.rorZp (z : Byte) : EncodedLength.Statement (.rorZp z) := ⟨_, _, rfl, rfl⟩
theorem EncodedLength.rorAcc : EncodedLength.Statement .rorAcc := ⟨_, _, rfl, rfl⟩
theorem EncodedLength.rorAbs (a : Word) : EncodedLength.Statement (.rorAbs a) := ⟨_, _, rfl, rfl⟩
theorem EncodedLength.rorZpX (z : Byte) : EncodedLength.Statement (.rorZpX z) := ⟨_, _, rfl, rfl⟩
theorem EncodedLength.rorAbsX (a : Word) : EncodedLength.Statement (.rorAbsX a) := ⟨_, _, rfl, rfl⟩
theorem EncodedLength.cmpIndX (z : Byte) : EncodedLength.Statement (.cmpIndX z) := ⟨_, _, rfl, rfl⟩
theorem EncodedLength.cmpZp (z : Byte) : EncodedLength.Statement (.cmpZp z) := ⟨_, _, rfl, rfl⟩
theorem EncodedLength.cmpImm (v : Byte) : EncodedLength.Statement (.cmpImm v) := ⟨_, _, rfl, rfl⟩
theorem EncodedLength.cmpAbs (a : Word) : EncodedLength.Statement (.cmpAbs a) := ⟨_, _, rfl, rfl⟩
theorem EncodedLength.cmpIndY (z : Byte) : EncodedLength.Statement (.cmpIndY z) := ⟨_, _, rfl, rfl⟩
theorem EncodedLength.cmpIzp (z : Byte) : EncodedLength.Statement (.cmpIzp z) := ⟨_, _, rfl, rfl⟩
theorem EncodedLength.cmpZpX (z : Byte) : EncodedLength.Statement (.cmpZpX z) := ⟨_, _, rfl, rfl⟩
theorem EncodedLength.cmpAbsY (a : Word) : EncodedLength.Statement (.cmpAbsY a) := ⟨_, _, rfl, rfl⟩
theorem EncodedLength.cmpAbsX (a : Word) : EncodedLength.Statement (.cmpAbsX a) := ⟨_, _, rfl, rfl⟩
theorem EncodedLength.cpxImm (v : Byte) : EncodedLength.Statement (.cpxImm v) := ⟨_, _, rfl, rfl⟩
theorem EncodedLength.cpxZp (z : Byte) : EncodedLength.Statement (.cpxZp z) := ⟨_, _, rfl, rfl⟩
theorem EncodedLength.cpxAbs (a : Word) : EncodedLength.Statement (.cpxAbs a) := ⟨_, _, rfl, rfl⟩
theorem EncodedLength.cpyImm (v : Byte) : EncodedLength.Statement (.cpyImm v) := ⟨_, _, rfl, rfl⟩
theorem EncodedLength.cpyZp (z : Byte) : EncodedLength.Statement (.cpyZp z) := ⟨_, _, rfl, rfl⟩
theorem EncodedLength.cpyAbs (a : Word) : EncodedLength.Statement (.cpyAbs a) := ⟨_, _, rfl, rfl⟩
theorem EncodedLength.bcc (r : Byte) : EncodedLength.Statement (.bcc r) := ⟨_, _, rfl, rfl⟩
theorem EncodedLength.bcs (r : Byte) : EncodedLength.Statement (.bcs r) := ⟨_, _, rfl, rfl⟩
theorem EncodedLength.beq (r : Byte) : EncodedLength.Statement (.beq r) := ⟨_, _, rfl, rfl⟩
theorem EncodedLength.bne (r : Byte) : EncodedLength.Statement (.bne r) := ⟨_, _, rfl, rfl⟩
theorem EncodedLength.bmi (r : Byte) : EncodedLength.Statement (.bmi r) := ⟨_, _, rfl, rfl⟩
theorem EncodedLength.bpl (r : Byte) : EncodedLength.Statement (.bpl r) := ⟨_, _, rfl, rfl⟩
theorem EncodedLength.bvc (r : Byte) : EncodedLength.Statement (.bvc r) := ⟨_, _, rfl, rfl⟩
theorem EncodedLength.bvs (r : Byte) : EncodedLength.Statement (.bvs r) := ⟨_, _, rfl, rfl⟩
theorem EncodedLength.bra (r : Byte) : EncodedLength.Statement (.bra r) := ⟨_, _, rfl, rfl⟩
theorem EncodedLength.bbr0 (z : Byte) (r : Byte) : EncodedLength.Statement (.bbr0 z r) := ⟨_, _, rfl, rfl⟩
theorem EncodedLength.bbr1 (z : Byte) (r : Byte) : EncodedLength.Statement (.bbr1 z r) := ⟨_, _, rfl, rfl⟩
theorem EncodedLength.bbr2 (z : Byte) (r : Byte) : EncodedLength.Statement (.bbr2 z r) := ⟨_, _, rfl, rfl⟩
theorem EncodedLength.bbr3 (z : Byte) (r : Byte) : EncodedLength.Statement (.bbr3 z r) := ⟨_, _, rfl, rfl⟩
theorem EncodedLength.bbr4 (z : Byte) (r : Byte) : EncodedLength.Statement (.bbr4 z r) := ⟨_, _, rfl, rfl⟩
theorem EncodedLength.bbr5 (z : Byte) (r : Byte) : EncodedLength.Statement (.bbr5 z r) := ⟨_, _, rfl, rfl⟩
theorem EncodedLength.bbr6 (z : Byte) (r : Byte) : EncodedLength.Statement (.bbr6 z r) := ⟨_, _, rfl, rfl⟩
theorem EncodedLength.bbr7 (z : Byte) (r : Byte) : EncodedLength.Statement (.bbr7 z r) := ⟨_, _, rfl, rfl⟩
theorem EncodedLength.bbs0 (z : Byte) (r : Byte) : EncodedLength.Statement (.bbs0 z r) := ⟨_, _, rfl, rfl⟩
theorem EncodedLength.bbs1 (z : Byte) (r : Byte) : EncodedLength.Statement (.bbs1 z r) := ⟨_, _, rfl, rfl⟩
theorem EncodedLength.bbs2 (z : Byte) (r : Byte) : EncodedLength.Statement (.bbs2 z r) := ⟨_, _, rfl, rfl⟩
theorem EncodedLength.bbs3 (z : Byte) (r : Byte) : EncodedLength.Statement (.bbs3 z r) := ⟨_, _, rfl, rfl⟩
theorem EncodedLength.bbs4 (z : Byte) (r : Byte) : EncodedLength.Statement (.bbs4 z r) := ⟨_, _, rfl, rfl⟩
theorem EncodedLength.bbs5 (z : Byte) (r : Byte) : EncodedLength.Statement (.bbs5 z r) := ⟨_, _, rfl, rfl⟩
theorem EncodedLength.bbs6 (z : Byte) (r : Byte) : EncodedLength.Statement (.bbs6 z r) := ⟨_, _, rfl, rfl⟩
theorem EncodedLength.bbs7 (z : Byte) (r : Byte) : EncodedLength.Statement (.bbs7 z r) := ⟨_, _, rfl, rfl⟩
theorem EncodedLength.jmpAbs (a : Word) : EncodedLength.Statement (.jmpAbs a) := ⟨_, _, rfl, rfl⟩
theorem EncodedLength.jmpInd (a : Word) : EncodedLength.Statement (.jmpInd a) := ⟨_, _, rfl, rfl⟩
theorem EncodedLength.jmpAix (a : Word) : EncodedLength.Statement (.jmpAix a) := ⟨_, _, rfl, rfl⟩
theorem EncodedLength.jsr (a : Word) : EncodedLength.Statement (.jsr a) := ⟨_, _, rfl, rfl⟩
theorem EncodedLength.rti : EncodedLength.Statement .rti := ⟨_, _, rfl, rfl⟩
theorem EncodedLength.brk : EncodedLength.Statement .brk := ⟨_, _, rfl, rfl⟩
theorem EncodedLength.rts : EncodedLength.Statement .rts := ⟨_, _, rfl, rfl⟩
theorem EncodedLength.pha : EncodedLength.Statement .pha := ⟨_, _, rfl, rfl⟩
theorem EncodedLength.php : EncodedLength.Statement .php := ⟨_, _, rfl, rfl⟩
theorem EncodedLength.phx : EncodedLength.Statement .phx := ⟨_, _, rfl, rfl⟩
theorem EncodedLength.phy : EncodedLength.Statement .phy := ⟨_, _, rfl, rfl⟩
theorem EncodedLength.pla : EncodedLength.Statement .pla := ⟨_, _, rfl, rfl⟩
theorem EncodedLength.plx : EncodedLength.Statement .plx := ⟨_, _, rfl, rfl⟩
theorem EncodedLength.plp : EncodedLength.Statement .plp := ⟨_, _, rfl, rfl⟩
theorem EncodedLength.ply : EncodedLength.Statement .ply := ⟨_, _, rfl, rfl⟩
theorem EncodedLength.clc : EncodedLength.Statement .clc := ⟨_, _, rfl, rfl⟩
theorem EncodedLength.sec : EncodedLength.Statement .sec := ⟨_, _, rfl, rfl⟩
theorem EncodedLength.cli : EncodedLength.Statement .cli := ⟨_, _, rfl, rfl⟩
theorem EncodedLength.sei : EncodedLength.Statement .sei := ⟨_, _, rfl, rfl⟩
theorem EncodedLength.cld : EncodedLength.Statement .cld := ⟨_, _, rfl, rfl⟩
theorem EncodedLength.sed : EncodedLength.Statement .sed := ⟨_, _, rfl, rfl⟩
theorem EncodedLength.clv : EncodedLength.Statement .clv := ⟨_, _, rfl, rfl⟩
theorem EncodedLength.tax : EncodedLength.Statement .tax := ⟨_, _, rfl, rfl⟩
theorem EncodedLength.tay : EncodedLength.Statement .tay := ⟨_, _, rfl, rfl⟩
theorem EncodedLength.txa : EncodedLength.Statement .txa := ⟨_, _, rfl, rfl⟩
theorem EncodedLength.tya : EncodedLength.Statement .tya := ⟨_, _, rfl, rfl⟩
theorem EncodedLength.tsx : EncodedLength.Statement .tsx := ⟨_, _, rfl, rfl⟩
theorem EncodedLength.txs : EncodedLength.Statement .txs := ⟨_, _, rfl, rfl⟩
theorem EncodedLength.bitZp (z : Byte) : EncodedLength.Statement (.bitZp z) := ⟨_, _, rfl, rfl⟩
theorem EncodedLength.bitAbs (a : Word) : EncodedLength.Statement (.bitAbs a) := ⟨_, _, rfl, rfl⟩
theorem EncodedLength.bitZpX (z : Byte) : EncodedLength.Statement (.bitZpX z) := ⟨_, _, rfl, rfl⟩
theorem EncodedLength.bitAbsX (a : Word) : EncodedLength.Statement (.bitAbsX a) := ⟨_, _, rfl, rfl⟩
theorem EncodedLength.bitImm (v : Byte) : EncodedLength.Statement (.bitImm v) := ⟨_, _, rfl, rfl⟩
theorem EncodedLength.trbZp (z : Byte) : EncodedLength.Statement (.trbZp z) := ⟨_, _, rfl, rfl⟩
theorem EncodedLength.trbAbs (a : Word) : EncodedLength.Statement (.trbAbs a) := ⟨_, _, rfl, rfl⟩
theorem EncodedLength.tsbZp (z : Byte) : EncodedLength.Statement (.tsbZp z) := ⟨_, _, rfl, rfl⟩
theorem EncodedLength.tsbAbs (a : Word) : EncodedLength.Statement (.tsbAbs a) := ⟨_, _, rfl, rfl⟩
theorem EncodedLength.rmb0 (z : Byte) : EncodedLength.Statement (.rmb0 z) := ⟨_, _, rfl, rfl⟩
theorem EncodedLength.rmb1 (z : Byte) : EncodedLength.Statement (.rmb1 z) := ⟨_, _, rfl, rfl⟩
theorem EncodedLength.rmb2 (z : Byte) : EncodedLength.Statement (.rmb2 z) := ⟨_, _, rfl, rfl⟩
theorem EncodedLength.rmb3 (z : Byte) : EncodedLength.Statement (.rmb3 z) := ⟨_, _, rfl, rfl⟩
theorem EncodedLength.rmb4 (z : Byte) : EncodedLength.Statement (.rmb4 z) := ⟨_, _, rfl, rfl⟩
theorem EncodedLength.rmb5 (z : Byte) : EncodedLength.Statement (.rmb5 z) := ⟨_, _, rfl, rfl⟩
theorem EncodedLength.rmb6 (z : Byte) : EncodedLength.Statement (.rmb6 z) := ⟨_, _, rfl, rfl⟩
theorem EncodedLength.rmb7 (z : Byte) : EncodedLength.Statement (.rmb7 z) := ⟨_, _, rfl, rfl⟩
theorem EncodedLength.smb0 (z : Byte) : EncodedLength.Statement (.smb0 z) := ⟨_, _, rfl, rfl⟩
theorem EncodedLength.smb1 (z : Byte) : EncodedLength.Statement (.smb1 z) := ⟨_, _, rfl, rfl⟩
theorem EncodedLength.smb2 (z : Byte) : EncodedLength.Statement (.smb2 z) := ⟨_, _, rfl, rfl⟩
theorem EncodedLength.smb3 (z : Byte) : EncodedLength.Statement (.smb3 z) := ⟨_, _, rfl, rfl⟩
theorem EncodedLength.smb4 (z : Byte) : EncodedLength.Statement (.smb4 z) := ⟨_, _, rfl, rfl⟩
theorem EncodedLength.smb5 (z : Byte) : EncodedLength.Statement (.smb5 z) := ⟨_, _, rfl, rfl⟩
theorem EncodedLength.smb6 (z : Byte) : EncodedLength.Statement (.smb6 z) := ⟨_, _, rfl, rfl⟩
theorem EncodedLength.smb7 (z : Byte) : EncodedLength.Statement (.smb7 z) := ⟨_, _, rfl, rfl⟩
theorem EncodedLength.nop : EncodedLength.Statement .nop := ⟨_, _, rfl, rfl⟩
theorem EncodedLength.wai : EncodedLength.Statement .wai := ⟨_, _, rfl, rfl⟩
theorem EncodedLength.unmapped02 : EncodedLength.Statement .unmapped02 := ⟨_, _, rfl, rfl⟩
theorem EncodedLength.unmapped03 : EncodedLength.Statement .unmapped03 := ⟨_, _, rfl, rfl⟩
theorem EncodedLength.unmapped0B : EncodedLength.Statement .unmapped0B := ⟨_, _, rfl, rfl⟩
theorem EncodedLength.unmapped13 : EncodedLength.Statement .unmapped13 := ⟨_, _, rfl, rfl⟩
theorem EncodedLength.unmapped1B : EncodedLength.Statement .unmapped1B := ⟨_, _, rfl, rfl⟩
theorem EncodedLength.unmapped22 : EncodedLength.Statement .unmapped22 := ⟨_, _, rfl, rfl⟩
theorem EncodedLength.unmapped23 : EncodedLength.Statement .unmapped23 := ⟨_, _, rfl, rfl⟩
theorem EncodedLength.unmapped2B : EncodedLength.Statement .unmapped2B := ⟨_, _, rfl, rfl⟩
theorem EncodedLength.unmapped33 : EncodedLength.Statement .unmapped33 := ⟨_, _, rfl, rfl⟩
theorem EncodedLength.unmapped3B : EncodedLength.Statement .unmapped3B := ⟨_, _, rfl, rfl⟩
theorem EncodedLength.unmapped42 : EncodedLength.Statement .unmapped42 := ⟨_, _, rfl, rfl⟩
theorem EncodedLength.unmapped43 : EncodedLength.Statement .unmapped43 := ⟨_, _, rfl, rfl⟩
theorem EncodedLength.unmapped44 : EncodedLength.Statement .unmapped44 := ⟨_, _, rfl, rfl⟩
theorem EncodedLength.unmapped4B : EncodedLength.Statement .unmapped4B := ⟨_, _, rfl, rfl⟩
theorem EncodedLength.unmapped53 : EncodedLength.Statement .unmapped53 := ⟨_, _, rfl, rfl⟩
theorem EncodedLength.unmapped54 : EncodedLength.Statement .unmapped54 := ⟨_, _, rfl, rfl⟩
theorem EncodedLength.unmapped5B : EncodedLength.Statement .unmapped5B := ⟨_, _, rfl, rfl⟩
theorem EncodedLength.unmapped5C : EncodedLength.Statement .unmapped5C := ⟨_, _, rfl, rfl⟩
theorem EncodedLength.unmapped62 : EncodedLength.Statement .unmapped62 := ⟨_, _, rfl, rfl⟩
theorem EncodedLength.unmapped63 : EncodedLength.Statement .unmapped63 := ⟨_, _, rfl, rfl⟩
theorem EncodedLength.unmapped6B : EncodedLength.Statement .unmapped6B := ⟨_, _, rfl, rfl⟩
theorem EncodedLength.unmapped73 : EncodedLength.Statement .unmapped73 := ⟨_, _, rfl, rfl⟩
theorem EncodedLength.unmapped7B : EncodedLength.Statement .unmapped7B := ⟨_, _, rfl, rfl⟩
theorem EncodedLength.unmapped82 : EncodedLength.Statement .unmapped82 := ⟨_, _, rfl, rfl⟩
theorem EncodedLength.unmapped83 : EncodedLength.Statement .unmapped83 := ⟨_, _, rfl, rfl⟩
theorem EncodedLength.unmapped8B : EncodedLength.Statement .unmapped8B := ⟨_, _, rfl, rfl⟩
theorem EncodedLength.unmapped93 : EncodedLength.Statement .unmapped93 := ⟨_, _, rfl, rfl⟩
theorem EncodedLength.unmapped9B : EncodedLength.Statement .unmapped9B := ⟨_, _, rfl, rfl⟩
theorem EncodedLength.unmappedA3 : EncodedLength.Statement .unmappedA3 := ⟨_, _, rfl, rfl⟩
theorem EncodedLength.unmappedAB : EncodedLength.Statement .unmappedAB := ⟨_, _, rfl, rfl⟩
theorem EncodedLength.unmappedB3 : EncodedLength.Statement .unmappedB3 := ⟨_, _, rfl, rfl⟩
theorem EncodedLength.unmappedBB : EncodedLength.Statement .unmappedBB := ⟨_, _, rfl, rfl⟩
theorem EncodedLength.unmappedC2 : EncodedLength.Statement .unmappedC2 := ⟨_, _, rfl, rfl⟩
theorem EncodedLength.unmappedC3 : EncodedLength.Statement .unmappedC3 := ⟨_, _, rfl, rfl⟩
theorem EncodedLength.unmappedD3 : EncodedLength.Statement .unmappedD3 := ⟨_, _, rfl, rfl⟩
theorem EncodedLength.unmappedD4 : EncodedLength.Statement .unmappedD4 := ⟨_, _, rfl, rfl⟩
theorem EncodedLength.unmappedDB : EncodedLength.Statement .unmappedDB := ⟨_, _, rfl, rfl⟩
theorem EncodedLength.unmappedDC : EncodedLength.Statement .unmappedDC := ⟨_, _, rfl, rfl⟩
theorem EncodedLength.unmappedE2 : EncodedLength.Statement .unmappedE2 := ⟨_, _, rfl, rfl⟩
theorem EncodedLength.unmappedE3 : EncodedLength.Statement .unmappedE3 := ⟨_, _, rfl, rfl⟩
theorem EncodedLength.unmappedEB : EncodedLength.Statement .unmappedEB := ⟨_, _, rfl, rfl⟩
theorem EncodedLength.unmappedF3 : EncodedLength.Statement .unmappedF3 := ⟨_, _, rfl, rfl⟩
theorem EncodedLength.unmappedF4 : EncodedLength.Statement .unmappedF4 := ⟨_, _, rfl, rfl⟩
theorem EncodedLength.unmappedFB : EncodedLength.Statement .unmappedFB := ⟨_, _, rfl, rfl⟩
theorem EncodedLength.unmappedFC : EncodedLength.Statement .unmappedFC := ⟨_, _, rfl, rfl⟩

end Sys2Proof.Laws
end

