-- ==== Sys2Proof/Laws/Video.lean ====
section
/-! SUPPORT. What the parts of VIDEO can change: the video step leaves `vram` and the register file alone, a composed
line writes one row, and each part keeps the legal video state. -/

namespace Sys2Proof.Machine

open Sys2Proof.Config

theorem testBit_or (a b : Byte) (n : Nat) : testBit (a ||| b) n = (testBit a n || testBit b n) :=
  BitVec.getLsbD_or

theorem testBit_and (a b : Byte) (n : Nat) : testBit (a &&& b) n = (testBit a n && testBit b n) :=
  BitVec.getLsbD_and

/-! ### Cursors -/

@[simp] theorem Video.cursor_setCursor_same (v : Video) (one : Bool) (c : Cursor) :
    (v.setCursor one c).cursor one = c := by cases one <;> rfl

theorem Video.cursor_setCursor_other (v : Video) (one : Bool) (c : Cursor) :
    (v.setCursor one c).cursor (!one) = v.cursor (!one) := by cases one <;> rfl

/-- Reloading a latch gives the cursor the byte its address reads, and leaves the other cursor alone (R369). -/
theorem Video.reloadLatch_cursor (v : Video) (one : Bool) :
    (v.reloadLatch one).cursor one = { v.cursor one with latch := v.vspaceRead (v.cursor one).addr } := by
  simp [Video.reloadLatch]

/-- The cursor of an access moves by its step and its latch shows the byte at the new address (R373 to R375). -/
theorem Video.advance_cursor (v : Video) (one : Bool) :
    (v.advance one).cursor one =
      { addr := (v.cursor one).addr + BitVec.ofInt 17 (incStep (v.cursor one).inc)
        inc := (v.cursor one).inc
        latch := v.vram.read ((v.cursor one).addr + BitVec.ofInt 17 (incStep (v.cursor one).inc)).toNat } := by
  simp [Video.advance, Video.reloadLatch_cursor, Video.vspaceRead]

/-- The other cursor keeps its address, code and latch, the latch even if its byte was just written (R369). -/
theorem Video.advance_cursor_other (v : Video) (one : Bool) :
    (v.advance one).cursor (!one) = v.cursor (!one) := by
  simp [Video.advance, Video.reloadLatch, Video.cursor_setCursor_other]

/-! ### The video step writes no video memory (`51_renderer.md` R432) -/

@[simp] theorem Video.composeLine_vram (cfg : Params) (eff : Nat) (v : Video) :
    (v.composeLine cfg eff).vram = v.vram := rfl

@[simp] theorem Video.endOfVisible_vram (v : Video) : v.endOfVisible.vram = v.vram := rfl

@[simp] theorem Video.endOfFrame_vram (cfg : Params) (v : Video) : (v.endOfFrame cfg).vram = v.vram := by
  unfold Video.endOfFrame
  split <;> rfl

@[simp] theorem Video.rasterCompare_vram (cfg : Params) (e : Int) (v : Video) :
    (v.rasterCompare cfg e).vram = v.vram := by
  unfold Video.rasterCompare
  split <;> rfl

@[simp] theorem Video.lineStep_vram (cfg : Params) (v : Video) : (v.lineStep cfg).vram = v.vram := by
  simp only [Video.lineStep, Video.rasterCompare_vram]
  split <;> split <;> simp

@[simp] theorem Video.step_vram (cfg : Params) (v : Video) : (v.step cfg).vram = v.vram := by
  simp only [Video.step]
  split
  · rw [Video.lineStep_vram]
  · rfl

@[simp] theorem Video.steps_vram (cfg : Params) (n : Nat) (v : Video) : (v.steps cfg n).vram = v.vram := by
  induction n generalizing v with
  | zero => rfl
  | succ n ih => simp [Video.steps, ih]

/-! ### Rows of the frame buffer -/

/-- The row that is listed, and the others. -/
theorem insertRow_find (fb : List (Nat × List Rgb)) (eff e : Nat) (row : List Rgb) :
    (insertRow fb eff row).find? (fun r => r.1 == e) =
      if e = eff then some (eff, row) else fb.find? (fun r => r.1 == e) := by
  induction fb with
  | nil =>
    by_cases h : e = eff
    · simp [insertRow, h]
    · have : ¬eff = e := fun k => h k.symm
      simp [insertRow, h, this]
  | cons r fb ih =>
    obtain ⟨d, w⟩ := r
    unfold insertRow
    split
    · by_cases h : e = eff
      · simp [h]
      · have : ¬eff = e := fun k => h k.symm
        simp [List.find?_cons, h, this]
    · split
      · next hd =>
        by_cases h : e = eff
        · simp [h]
        · have h1 : ¬eff = e := fun k => h k.symm
          have h2 : ¬d = e := by omega
          simp [h, h1, h2]
      · next hd =>
        rw [List.find?_cons, ih, List.find?_cons]
        by_cases h : e = eff
        · have : (d == e) = false := by
            rw [beq_eq_false_iff_ne]
            omega
          subst h
          simp [this]
        · simp [h]

theorem filterRow_find (fb : List (Nat × List Rgb)) (eff e : Nat) :
    (fb.filter (fun r => r.1 != eff)).find? (fun r => r.1 == e) =
      if e = eff then none else fb.find? (fun r => r.1 == e) := by
  induction fb with
  | nil => simp
  | cons r fb ih =>
    obtain ⟨d, w⟩ := r
    by_cases hd : d = eff
    · subst hd
      simp only [List.filter_cons, bne_self_eq_false, Bool.false_eq_true, if_false, ih, List.find?_cons]
      by_cases h : e = d
      · simp [h]
      · have : (d == e) = false := by
          rw [beq_eq_false_iff_ne]
          omega
        simp [h, this]
    · have hk : (d != eff) = true := by simpa using hd
      simp only [List.filter_cons, hk, if_true, List.find?_cons, ih]
      by_cases h : d = e
      · subst h
        simp [hd]
      · have : (d == e) = false := by simpa using h
        simp [this]

/-- A written row reads as it was written, and every other row as before. -/
theorem fbRead_setRow (fb : List (Nat × List Rgb)) (eff r c : Nat) (row : List Rgb) :
    fbRead (setRow fb eff row) r c = if r = eff then row.getD c Rgb.unlisted else fbRead fb r c := by
  unfold setRow
  split
  · next hall =>
    simp only [fbRead, filterRow_find]
    by_cases h : r = eff
    · rw [if_pos h, if_pos h]
      rw [List.all_eq_true] at hall
      rw [List.getD_eq_getElem?_getD]
      cases hc : row[c]? with
      | none => rfl
      | some p => exact (of_decide_eq_true (hall p (List.mem_of_getElem? hc))).symm
    · rw [if_neg h, if_neg h]
  · simp only [fbRead, insertRow_find]
    by_cases h : r = eff
    · rw [if_pos h, if_pos h]
    · rw [if_neg h, if_neg h]

/-- Composing a line writes its own row of the frame buffer and no other (R474). -/
theorem Video.composeLine_pixel (v : Video) (cfg : Params) (eff row col : Nat) :
    (v.composeLine cfg eff).pixel cfg row col =
      if row < cfg.screenHeight ∧ col < cfg.screenWidth then
        some (if row = eff then (v.linePixels cfg eff).getD col Rgb.unlisted else fbRead v.fb row col)
      else none := by
  simp only [Video.pixel, Video.composeLine, fbRead_setRow]

theorem rowsLegal_cons {cfg : Params} {low e : Nat} {row : List Rgb} {fb : List (Nat × List Rgb)} :
    rowsLegal cfg low ((e, row) :: fb) = true ↔
      low ≤ e ∧ e < cfg.screenHeight ∧ row.length = cfg.screenWidth ∧
        row.any (fun p => decide (p ≠ Rgb.unlisted)) = true ∧ rowsLegal cfg (e + 1) fb = true := by
  simp only [rowsLegal, Bool.and_eq_true, decide_eq_true_eq, and_assoc]

theorem rowsLegal_mono {cfg : Params} {low low' : Nat} {fb : List (Nat × List Rgb)} (h : low ≤ low')
    (hf : rowsLegal cfg low' fb) : rowsLegal cfg low fb := by
  cases fb with
  | nil => rfl
  | cons r fb =>
    rw [rowsLegal_cons] at *
    exact ⟨by omega, hf.2⟩

theorem rowsLegal_insertRow {cfg : Params} {low eff : Nat} {row : List Rgb} (fb : List (Nat × List Rgb))
    (hl : low ≤ eff) (he : eff < cfg.screenHeight) (hr : row.length = cfg.screenWidth)
    (ha : row.any (fun p => decide (p ≠ Rgb.unlisted))) (hf : rowsLegal cfg low fb) :
    rowsLegal cfg low (insertRow fb eff row) := by
  induction fb generalizing low with
  | nil => exact rowsLegal_cons.mpr ⟨hl, he, hr, ha, rfl⟩
  | cons r fb ih =>
    obtain ⟨e, w⟩ := r
    rw [rowsLegal_cons] at hf
    unfold insertRow
    split
    · exact rowsLegal_cons.mpr ⟨hl, he, hr, ha, rowsLegal_cons.mpr ⟨by omega, hf.2⟩⟩
    · split
      · next k => exact rowsLegal_cons.mpr ⟨hl, he, hr, ha, k ▸ hf.2.2.2.2⟩
      · exact rowsLegal_cons.mpr ⟨hf.1, hf.2.1, hf.2.2.1, hf.2.2.2.1, ih (by omega) hf.2.2.2.2⟩

theorem rowsLegal_filter {cfg : Params} {low : Nat} (p : Nat × List Rgb → Bool) (fb : List (Nat × List Rgb))
    (hf : rowsLegal cfg low fb) : rowsLegal cfg low (fb.filter p) := by
  induction fb generalizing low with
  | nil => rfl
  | cons r fb ih =>
    obtain ⟨e, w⟩ := r
    rw [rowsLegal_cons] at hf
    rw [List.filter_cons]
    split
    · exact rowsLegal_cons.mpr ⟨hf.1, hf.2.1, hf.2.2.1, hf.2.2.2.1, ih hf.2.2.2.2⟩
    · exact rowsLegal_mono (by omega) (ih hf.2.2.2.2)

/-- Composing a row of the screen keeps the rows legal. -/
theorem rowsLegal_setRow {cfg : Params} {low eff : Nat} {row : List Rgb} (fb : List (Nat × List Rgb))
    (hl : low ≤ eff) (he : eff < cfg.screenHeight) (hr : row.length = cfg.screenWidth) (hf : rowsLegal cfg low fb) :
    rowsLegal cfg low (setRow fb eff row) := by
  unfold setRow
  split
  · exact rowsLegal_filter _ fb hf
  · next h =>
    refine rowsLegal_insertRow fb hl he hr ?_ hf
    simpa [List.any_eq_true, List.all_eq_true] using h

@[simp] theorem Video.linePixels_length (v : Video) (cfg : Params) (eff : Nat) :
    (v.linePixels cfg eff).length = cfg.screenWidth := by simp [Video.linePixels]

/-! ### The budget of a sprite line (`51_renderer.md` R443, R446) -/

/-- A charge: whether the line has ended, and what is left. -/
theorem SpriteLine.charge_cases (n : Nat) (l : SpriteLine) :
    (l.exhausted = true ∧ l.charge n = l) ∨
      (l.exhausted = false ∧ l.budget < n ∧ l.charge n = { l with exhausted := true }) ∨
      (l.exhausted = false ∧ n ≤ l.budget ∧ l.charge n = { l with budget := l.budget - n }) := by
  unfold SpriteLine.charge
  cases l.exhausted with
  | true => exact Or.inl ⟨rfl, rfl⟩
  | false =>
    by_cases h : l.budget < n
    · exact Or.inr (Or.inl ⟨rfl, h, by simp [h]⟩)
    · exact Or.inr (Or.inr ⟨rfl, by omega, by simp [h]⟩)

theorem SpriteLine.charge_exhausted {l : SpriteLine} (h : l.exhausted) (n : Nat) : l.charge n = l := by
  simp [SpriteLine.charge, h]

/-- A pixel on a line that has ended draws nothing. -/
theorem Video.spriteColumn_exhausted (v : Video) (cfg : Params) (s : Sprite) (row sx : Nat) {l : SpriteLine}
    (h : l.exhausted) : v.spriteColumn cfg s row sx l = l := by
  simp [Video.spriteColumn, SpriteLine.charge_exhausted h, h]

/-- A sprite on a line that has ended draws nothing. -/
theorem Video.spriteRow_exhausted (v : Video) (cfg : Params) (y i : Nat) {l : SpriteLine} (h : l.exhausted) :
    v.spriteRow cfg y l i = l := by
  simp [Video.spriteRow, SpriteLine.charge_exhausted h, h]

/-! ### Collision masks stand in the high nibble (`51_renderer.md` R447) -/

/-- The low nibble is clear. -/
def highOnly (b : Byte) : Bool := decide (b &&& 0x0F#8 = 0)

theorem highOnly_or {a b : Byte} (ha : highOnly a) (hb : highOnly b) : highOnly (a ||| b) := by
  simp only [highOnly, decide_eq_true_eq] at *
  rw [BitVec.and_comm, BitVec.and_or_distrib_left, BitVec.and_comm _ a, BitVec.and_comm _ b, ha, hb]
  rfl

theorem highOnly_and_right {a b : Byte} (hb : highOnly b) : highOnly (a &&& b) := by
  simp only [highOnly, decide_eq_true_eq] at *
  rw [BitVec.and_assoc, hb]
  exact BitVec.and_zero

theorem Video.sprite_mask (v : Video) (s : Nat) : highOnly (v.sprite s).mask := by
  simp only [highOnly, decide_eq_true_eq, Video.sprite, BitVec.and_assoc]
  exact BitVec.and_zero

theorem SpriteLine.charge_collisions (n : Nat) (l : SpriteLine) : (l.charge n).collisions = l.collisions := by
  unfold SpriteLine.charge
  split
  · rfl
  · split <;> rfl

theorem Video.spriteColumn_high (v : Video) (cfg : Params) (i row sx : Nat) (l : SpriteLine)
    (h : highOnly l.collisions) : highOnly (v.spriteColumn cfg (v.sprite i) row sx l).collisions := by
  unfold Video.spriteColumn
  dsimp only
  split
  · exact h
  · have hl : highOnly (if sx * (v.sprite i).bpp % 32 = 0 then l.charge 1 else l).collisions := by
      split
      · rwa [SpriteLine.charge_collisions]
      · exact h
    revert hl
    generalize (if sx * (v.sprite i).bpp % 32 = 0 then l.charge 1 else l) = m
    intro hm
    have hc : highOnly (m.charge 1).collisions := by rwa [SpriteLine.charge_collisions]
    split
    · exact hc
    · generalize (if (v.sprite i).hflip = true then (v.sprite i).width - 1 - sx else sx) = px
      split
      · exact hc
      · exact highOnly_or hc (highOnly_and_right (v.sprite_mask i))

theorem Video.spriteRow_high (v : Video) (cfg : Params) (y i : Nat) (l : SpriteLine) (h : highOnly l.collisions) :
    highOnly (v.spriteRow cfg y l i).collisions := by
  unfold Video.spriteRow
  dsimp only
  have fold : ∀ (row : Nat) (xs : List Nat) (l : SpriteLine), highOnly l.collisions →
      highOnly (xs.foldl (fun l sx => v.spriteColumn cfg (v.sprite i) row sx l) l).collisions := by
    intro row xs
    induction xs with
    | nil => exact fun _ h => h
    | cons x xs ih => exact fun l h => ih _ (v.spriteColumn_high cfg i row x l h)
  split
  · rw [SpriteLine.charge_collisions]
    exact h
  · exact fold _ _ _ (by rw [SpriteLine.charge_collisions]; exact h)

theorem Video.renderSpriteLine_high (v : Video) (cfg : Params) (y : Nat) (h : highOnly v.spriteCollisions) :
    highOnly (v.renderSpriteLine cfg y).collisions := by
  unfold Video.renderSpriteLine
  have fold : ∀ (xs : List Nat) (l : SpriteLine), highOnly l.collisions →
      highOnly (xs.foldl (v.spriteRow cfg y) l).collisions := by
    intro xs
    induction xs with
    | nil => exact fun _ h => h
    | cons x xs ih => exact fun l h => ih _ (v.spriteRow_high cfg y x l h)
  exact fold _ _ h

/-- The collisions after a line: the old ones and the masks that met, all in the high nibble. -/
theorem Video.composeLine_high (v : Video) (cfg : Params) (eff : Nat) (h : highOnly v.spriteCollisions) :
    highOnly (v.composeLine cfg eff).spriteCollisions := by
  simp only [Video.composeLine, Video.spriteLineOf]
  split
  · exact h
  · exact v.renderSpriteLine_high cfg _ h

/-! ### Legal video state -/

theorem Video.legal_iff (cfg : Params) (v : Video) :
    v.legal cfg ↔ testBit v.isr 3 = false ∧ highOnly v.spriteCollisions ∧ v.scanY < cfg.scanHeight ∧
      rowsLegal cfg 0 v.fb := by
  simp [Video.legal, highOnly, and_assoc]

/-- Legality looks at four fields only. -/
theorem Video.legal_congr {cfg : Params} {v w : Video} (hi : w.isr = v.isr)
    (hc : w.spriteCollisions = v.spriteCollisions) (hy : w.scanY = v.scanY) (hf : w.fb = v.fb) :
    w.legal cfg = v.legal cfg := by simp only [Video.legal, hi, hc, hy, hf]

theorem Video.legal_setCursor (cfg : Params) (v : Video) (one : Bool) (c : Cursor) :
    (v.setCursor one c).legal cfg = v.legal cfg := by
  cases one <;> exact Video.legal_congr rfl rfl rfl rfl

theorem Video.legal_advance (cfg : Params) (v : Video) (one : Bool) : (v.advance one).legal cfg = v.legal cfg := by
  simp only [Video.advance, Video.reloadLatch, Video.legal_setCursor]

theorem Video.legal_portWrite (cfg : Params) (v : Video) (one : Bool) (b : Byte) :
    (v.portWrite one b).legal cfg = v.legal cfg := by
  unfold Video.portWrite
  rw [Video.legal_advance]
  exact Video.legal_congr rfl rfl rfl rfl

@[simp] theorem Video.reset_isr (cfg : Params) (v : Video) : (v.reset cfg).isr = 0#8 := by simp only [Video.reset]

@[simp] theorem Video.reset_spriteCollisions (cfg : Params) (v : Video) : (v.reset cfg).spriteCollisions = 0#8 := by
  simp only [Video.reset]

@[simp] theorem Video.reset_scanY (cfg : Params) (v : Video) : (v.reset cfg).scanY = 0 := by simp only [Video.reset]

@[simp] theorem Video.reset_fb (cfg : Params) (v : Video) : (v.reset cfg).fb = v.fb := by simp only [Video.reset]

@[simp] theorem Video.reset_vram (cfg : Params) (v : Video) : (v.reset cfg).vram = resetVram cfg v.vram := by
  simp only [Video.reset]

theorem Video.legal_reset {cfg : Params} {v : Video} (h : v.legal cfg) : (v.reset cfg).legal cfg := by
  rw [Video.legal_iff] at *
  simp only [Video.reset_isr, Video.reset_spriteCollisions, Video.reset_scanY, Video.reset_fb]
  exact ⟨rfl, rfl, Nat.lt_of_le_of_lt (Nat.zero_le _) h.2.2.1, h.2.2.2⟩

theorem Video.legal_regWrite {cfg : Params} {v : Video} (r : VideoReg) (b : Byte) (h : v.legal cfg) :
    (v.regWrite cfg r b).legal cfg := by
  have hctrl : (v.writeCtrl cfg b).legal cfg := by
    unfold Video.writeCtrl
    dsimp only
    split
    · rw [← Video.legal_reset h]
      exact Video.legal_congr (v := v.reset cfg) (by simp only) (by simp only) (by simp only) (by simp only)
    · exact h
  cases r with
  | addrL => simpa only [Video.regWrite, Video.writeAddr, Video.reloadLatch, Video.legal_setCursor] using h
  | addrM => simpa only [Video.regWrite, Video.writeAddr, Video.reloadLatch, Video.legal_setCursor] using h
  | addrH => simpa only [Video.regWrite, Video.writeAddr, Video.reloadLatch, Video.legal_setCursor] using h
  | ctrl => exact hctrl
  | isr =>
    rw [Video.legal_iff] at *
    refine ⟨?_, h.2⟩
    simp only [Video.regWrite, testBit_and, h.1, Bool.false_and]
  | layer one k =>
    simp only [Video.regWrite]
    rw [← h]
    cases one <;> exact Video.legal_congr rfl rfl rfl rfl
  | data _ => exact h
  | ien => exact h
  | irqLineL => exact h
  | dc _ => exact h
  | pcm _ => exact h
  | spi _ => exact h

theorem Video.legal_composeLine {cfg : Params} {v : Video} {eff : Nat} (he : eff < cfg.screenHeight)
    (h : v.legal cfg) : (v.composeLine cfg eff).legal cfg := by
  rw [Video.legal_iff] at *
  exact ⟨h.1, v.composeLine_high cfg eff h.2.1, h.2.2.1,
    rowsLegal_setRow _ (Nat.zero_le _) he (v.linePixels_length cfg eff) h.2.2.2⟩

theorem Video.legal_endOfVisible {cfg : Params} {v : Video} (h : v.legal cfg) : v.endOfVisible.legal cfg := by
  rw [Video.legal_iff] at *
  have hc : v.endOfVisible.spriteCollisions = 0#8 := rfl
  rw [hc]
  refine ⟨?_, rfl, h.2.2⟩
  have h3 := h.1
  simp only [Video.endOfVisible]
  split
  · simp only [testBit_or, testBit_and, h3, show testBit 0xF0#8 3 = false from rfl, Bool.false_and, Bool.and_false]
    rfl
  · exact h3

theorem Video.legal_rasterCompare {cfg : Params} {v : Video} (e : Int) (h : v.legal cfg) :
    (v.rasterCompare cfg e).legal cfg := by
  unfold Video.rasterCompare
  split
  · rw [Video.legal_iff] at *
    refine ⟨?_, h.2⟩
    simp only [testBit_or, h.1]
    rfl
  · exact h

theorem Video.legal_endOfFrame {cfg : Params} {v : Video} (hi : testBit v.isr 3 = false)
    (hc : highOnly v.spriteCollisions) (hy : v.scanY ≤ cfg.scanHeight) (hpos : 0 < cfg.scanHeight)
    (hf : rowsLegal cfg 0 v.fb) : (v.endOfFrame cfg).legal cfg := by
  unfold Video.endOfFrame
  split
  · rw [Video.legal_iff]
    refine ⟨?_, hc, hpos, hf⟩
    dsimp only
    split
    · simp only [testBit_or, hi]
      rfl
    · exact hi
  · rw [Video.legal_iff]
    exact ⟨hi, hc, by omega, hf⟩

/-- A line step keeps the video state legal. -/
theorem Video.legal_lineStep {cfg : Params} {v : Video} (h : v.legal cfg) : (v.lineStep cfg).legal cfg := by
  have h0 : (Video.endOfFrame cfg { v with scanY := v.scanY + 1 }).legal cfg := by
    rw [Video.legal_iff] at h
    refine Video.legal_endOfFrame h.1 h.2.1 ?_ ?_ h.2.2.2
    · show v.scanY + 1 ≤ cfg.scanHeight
      omega
    · omega
  unfold Video.lineStep
  dsimp only
  apply Video.legal_rasterCompare
  split
  · next hs =>
    apply Video.legal_endOfVisible
    rw [if_neg (by omega)]
    exact h0
  · split
    · exact Video.legal_composeLine (by omega) h0
    · exact h0

/-- A video step keeps the video state legal. -/
theorem Video.legal_step {cfg : Params} {v : Video} (h : v.legal cfg) : (v.step cfg).legal cfg := by
  unfold Video.step
  dsimp only
  split
  · exact Video.legal_lineStep (v := { v with scanXNum := _ }) h
  · exact h

end Sys2Proof.Machine
end

