-- ==== Sys2Proof/Laws/Sound.lean ====
section
/-! SUPPORT. Every memory operation keeps the four memories canonical and inside their arrays, and the reset state has
it; the reset state is power-on followed by `reset()`. -/

namespace Sys2Proof.Machine

open Sys2Proof.Config

theorem State.memorySound_iff (s : State) :
    s.memorySound ↔ s.bus.ram.sound 0x9F00 ∧ s.bus.bram.sound (s.cfg.numRamBanks * 0x2000) ∧
      s.bus.rom.sound (s.cfg.numRomBanks * 0x4000) ∧ s.video.vram.sound 0x20000 := by
  simp [State.memorySound, and_assoc]

/-- Soundness looks at the parameters, the BUS and `vram` only. -/
theorem State.memorySound_congr {s t : State} (hc : t.cfg = s.cfg) (hb : t.bus = s.bus)
    (hv : t.video.vram = s.video.vram) : t.memorySound = s.memorySound := by
  simp only [State.memorySound, hc, hb, hv]

/-- A read keeps the memories sound. -/
theorem memRead_memorySound (a : Word) {s : State} (hs : s.memorySound) : (memRead a s).2.memorySound := by
  rw [State.memorySound_congr (memRead_cfg a s) (memRead_bus a s) (memRead_vram a s)]
  exact hs

/-- The default palette is 512 bytes long. -/
theorem defaultPaletteBytes_length (cfg : Params) : (defaultPaletteBytes cfg).length = 512 := by
  have h : ∀ (l : List Nat), (l.flatMap fun i => paletteBytes (cfg.defaultPalette.getD i 0#12)).length
      = 2 * l.length := by
    intro l
    induction l with
    | nil => rfl
    | cons i l ih =>
      rw [List.flatMap_cons, List.length_append, ih, List.length_cons]
      have : (paletteBytes (cfg.defaultPalette.getD i 0#12)).length = 2 := rfl
      omega
  rw [defaultPaletteBytes, h, List.length_range]

/-- The video reset keeps `vram` sound. -/
theorem resetVram_sound (cfg : Params) (m : Memory) (hm : m.sound 0x20000) : (resetVram cfg m).sound 0x20000 := by
  unfold resetVram
  apply Memory.sound_writeAll
  · rw [List.length_replicate]
  · apply Memory.sound_writeAll
    · rw [defaultPaletteBytes_length]
      omega
    · exact hm

theorem VAddr.toNat_lt (a : VAddr) : a.toNat < 0x20000 := a.isLt

theorem Video.portWrite_vram (v : Video) (one : Bool) (b : Byte) :
    (v.portWrite one b).vram = v.vram.write (v.cursor one).addr.toNat b := by
  simp only [Video.portWrite, Video.advance_vram]

/-- A register write changes `vram` only through the video reset (R362, R380). -/
theorem Video.regWrite_vram (v : Video) (cfg : Params) (r : VideoReg) (b : Byte) :
    (v.regWrite cfg r b).vram = v.vram ∨ (v.regWrite cfg r b).vram = resetVram cfg v.vram := by
  cases r with
  | addrL => left; simp [Video.regWrite, Video.writeAddr]
  | addrM => left; simp [Video.regWrite, Video.writeAddr]
  | addrH => left; simp [Video.regWrite, Video.writeAddr]
  | ctrl =>
    simp only [Video.regWrite, Video.writeCtrl]
    split
    · exact .inr (v.reset_vram cfg)
    · exact .inl rfl
  | layer one k => left; cases one <;> rfl
  | data _ => exact .inl rfl
  | ien => exact .inl rfl
  | isr => exact .inl rfl
  | irqLineL => exact .inl rfl
  | dc _ => exact .inl rfl
  | pcm _ => exact .inl rfl
  | spi _ => exact .inl rfl

/-- A write keeps the memories sound. -/
theorem memWrite_memorySound (a : Word) (v : Byte) {s : State} (hb : 1 ≤ s.cfg.numRamBanks) (hs : s.memorySound) :
    (memWrite a v s).memorySound := by
  rw [State.memorySound_iff] at hs
  obtain ⟨hram, hbram, hrom, hvram⟩ := hs
  rcases memWrite_cases a v s with e | ⟨h, e⟩ | ⟨h, e⟩ | ⟨_, p, e⟩ | ⟨_, r, e⟩ | ⟨_, _, _, e⟩ | ⟨_, _, e⟩ <;>
    rw [e, State.memorySound_iff]
  · exact ⟨hram, hbram, hrom, hvram⟩
  · exact ⟨Memory.sound_write _ v (region_directRam.mp h) hram, hbram, hrom, hvram⟩
  · exact ⟨hram, Memory.sound_write _ v (bramIndex_lt hb _ h) hbram, hrom, hvram⟩
  · refine ⟨by simpa using hram, by simpa using hbram, by simpa using hrom, ?_⟩
    rcases dataPortWrite_cases p v s with e | ⟨_, e⟩ <;> rw [e]
    all_goals
      simp only [Video.portWrite_vram]
      exact Memory.sound_write _ v (VAddr.toNat_lt _) hvram
  · refine ⟨hram, hbram, hrom, ?_⟩
    rcases Video.regWrite_vram s.video s.cfg r v with k | k <;> simp only [k]
    · exact hvram
    · exact resetVram_sound _ _ hvram
  · exact ⟨hram, hbram, hrom, hvram⟩
  · exact ⟨hram, hbram, hrom, hvram⟩

/-- The memories of the reset state list nothing, so they are sound. -/
theorem reset_memorySound : State.reset.memorySound := by decide

/-- Power-on is a video-reset state (`70_reset_and_hazards.md` R592). -/
theorem powerOn_composer : State.powerOn.video.composer = ⟨0, 128, 128, 0, 0, 160, 0, 240⟩ := rfl

/-- The reset state is power-on followed by `reset()` (`70_reset_and_hazards.md` R590, R592). -/
theorem reset_eq_cpuReset_powerOn : State.reset = cpuReset State.powerOn := by decide +kernel

/-- The video state at power-on is what a video reset leaves (`10_state.md` R75, R87). -/
theorem powerOn_video_reset : State.powerOn.video = State.powerOn.video.reset Params.default := by decide +kernel

end Sys2Proof.Machine
end

