-- ==== Sys2Proof/Tests/Slice0.lean ====
section
/-! SUPPORT. The model's own tests: the decoding of every constructor from written-out bytes, the refusals of
WellFormed, single-step vectors of `95_test_vectors.md` part 2, and for every statement with hypotheses a witness that
meets them. Every expected result comes from the spec (a row that
leaves out `SP` has it from `47_stack.md` R290). -/

open Sys2Proof Sys2Proof.Machine Sys2Proof.Config Sys2Proof.Claims

namespace Sys2Proof.Tests

/-- The instruction some bytes decode to, if all of them are used. -/
def decoded (bytes : List Byte) : Option Instr :=
  match decode bytes with
  | .ok i [] => some i
  | _ => none

/-! ### Decoding: one word per opcode, written out from the opcode map (`30_encoding.md` R168), operand bytes $34 $12 -/

theorem test_decode_row_0x : [
    [0x00], [0x01, 0x34], [0x02], [0x03], [0x04, 0x34], [0x05, 0x34], [0x06, 0x34], [0x07, 0x34], [0x08],
    [0x09, 0x34], [0x0A], [0x0B], [0x0C, 0x34, 0x12], [0x0D, 0x34, 0x12], [0x0E, 0x34, 0x12], [0x0F, 0x34, 0x12]].map decoded = [
    .brk, .oraIndX 0x34, .unmapped02, .unmapped03, .tsbZp 0x34, .oraZp 0x34, .aslZp 0x34, .rmb0 0x34, .php,
    .oraImm 0x34, .aslAcc, .unmapped0B, .tsbAbs 0x1234, .oraAbs 0x1234, .aslAbs 0x1234, .bbr0 0x34 0x12].map some := by
  decide

theorem test_decode_row_1x : [
    [0x10, 0x34], [0x11, 0x34], [0x12, 0x34], [0x13], [0x14, 0x34], [0x15, 0x34], [0x16, 0x34], [0x17, 0x34],
    [0x18], [0x19, 0x34, 0x12], [0x1A], [0x1B], [0x1C, 0x34, 0x12], [0x1D, 0x34, 0x12], [0x1E, 0x34, 0x12],
    [0x1F, 0x34, 0x12]].map decoded = [
    .bpl 0x34, .oraIndY 0x34, .oraIzp 0x34, .unmapped13, .trbZp 0x34, .oraZpX 0x34, .aslZpX 0x34, .rmb1 0x34, .clc,
    .oraAbsY 0x1234, .incAcc, .unmapped1B, .trbAbs 0x1234, .oraAbsX 0x1234, .aslAbsX 0x1234, .bbr1 0x34 0x12].map some := by
  decide

theorem test_decode_row_2x : [
    [0x20, 0x34, 0x12], [0x21, 0x34], [0x22], [0x23], [0x24, 0x34], [0x25, 0x34], [0x26, 0x34], [0x27, 0x34],
    [0x28], [0x29, 0x34], [0x2A], [0x2B], [0x2C, 0x34, 0x12], [0x2D, 0x34, 0x12], [0x2E, 0x34, 0x12],
    [0x2F, 0x34, 0x12]].map decoded = [
    .jsr 0x1234, .andIndX 0x34, .unmapped22, .unmapped23, .bitZp 0x34, .andZp 0x34, .rolZp 0x34, .rmb2 0x34, .plp,
    .andImm 0x34, .rolAcc, .unmapped2B, .bitAbs 0x1234, .andAbs 0x1234, .rolAbs 0x1234, .bbr2 0x34 0x12].map some := by
  decide

theorem test_decode_row_3x : [
    [0x30, 0x34], [0x31, 0x34], [0x32, 0x34], [0x33], [0x34, 0x34], [0x35, 0x34], [0x36, 0x34], [0x37, 0x34],
    [0x38], [0x39, 0x34, 0x12], [0x3A], [0x3B], [0x3C, 0x34, 0x12], [0x3D, 0x34, 0x12], [0x3E, 0x34, 0x12],
    [0x3F, 0x34, 0x12]].map decoded = [
    .bmi 0x34, .andIndY 0x34, .andIzp 0x34, .unmapped33, .bitZpX 0x34, .andZpX 0x34, .rolZpX 0x34, .rmb3 0x34,
    .sec, .andAbsY 0x1234, .decAcc, .unmapped3B, .bitAbsX 0x1234, .andAbsX 0x1234, .rolAbsX 0x1234, .bbr3 0x34 0x12].map some := by
  decide

theorem test_decode_row_4x : [
    [0x40], [0x41, 0x34], [0x42], [0x43], [0x44], [0x45, 0x34], [0x46, 0x34], [0x47, 0x34], [0x48], [0x49, 0x34],
    [0x4A], [0x4B], [0x4C, 0x34, 0x12], [0x4D, 0x34, 0x12], [0x4E, 0x34, 0x12], [0x4F, 0x34, 0x12]].map decoded = [
    .rti, .eorIndX 0x34, .unmapped42, .unmapped43, .unmapped44, .eorZp 0x34, .lsrZp 0x34, .rmb4 0x34, .pha,
    .eorImm 0x34, .lsrAcc, .unmapped4B, .jmpAbs 0x1234, .eorAbs 0x1234, .lsrAbs 0x1234, .bbr4 0x34 0x12].map some := by
  decide

theorem test_decode_row_5x : [
    [0x50, 0x34], [0x51, 0x34], [0x52, 0x34], [0x53], [0x54], [0x55, 0x34], [0x56, 0x34], [0x57, 0x34], [0x58],
    [0x59, 0x34, 0x12], [0x5A], [0x5B], [0x5C], [0x5D, 0x34, 0x12], [0x5E, 0x34, 0x12], [0x5F, 0x34, 0x12]].map decoded = [
    .bvc 0x34, .eorIndY 0x34, .eorIzp 0x34, .unmapped53, .unmapped54, .eorZpX 0x34, .lsrZpX 0x34, .rmb5 0x34, .cli,
    .eorAbsY 0x1234, .phy, .unmapped5B, .unmapped5C, .eorAbsX 0x1234, .lsrAbsX 0x1234, .bbr5 0x34 0x12].map some := by
  decide

theorem test_decode_row_6x : [
    [0x60], [0x61, 0x34], [0x62], [0x63], [0x64, 0x34], [0x65, 0x34], [0x66, 0x34], [0x67, 0x34], [0x68],
    [0x69, 0x34], [0x6A], [0x6B], [0x6C, 0x34, 0x12], [0x6D, 0x34, 0x12], [0x6E, 0x34, 0x12], [0x6F, 0x34, 0x12]].map decoded = [
    .rts, .adcIndX 0x34, .unmapped62, .unmapped63, .stzZp 0x34, .adcZp 0x34, .rorZp 0x34, .rmb6 0x34, .pla,
    .adcImm 0x34, .rorAcc, .unmapped6B, .jmpInd 0x1234, .adcAbs 0x1234, .rorAbs 0x1234, .bbr6 0x34 0x12].map some := by
  decide

theorem test_decode_row_7x : [
    [0x70, 0x34], [0x71, 0x34], [0x72, 0x34], [0x73], [0x74, 0x34], [0x75, 0x34], [0x76, 0x34], [0x77, 0x34],
    [0x78], [0x79, 0x34, 0x12], [0x7A], [0x7B], [0x7C, 0x34, 0x12], [0x7D, 0x34, 0x12], [0x7E, 0x34, 0x12],
    [0x7F, 0x34, 0x12]].map decoded = [
    .bvs 0x34, .adcIndY 0x34, .adcIzp 0x34, .unmapped73, .stzZpX 0x34, .adcZpX 0x34, .rorZpX 0x34, .rmb7 0x34,
    .sei, .adcAbsY 0x1234, .ply, .unmapped7B, .jmpAix 0x1234, .adcAbsX 0x1234, .rorAbsX 0x1234, .bbr7 0x34 0x12].map some := by
  decide

theorem test_decode_row_8x : [
    [0x80, 0x34], [0x81, 0x34], [0x82], [0x83], [0x84, 0x34], [0x85, 0x34], [0x86, 0x34], [0x87, 0x34], [0x88],
    [0x89, 0x34], [0x8A], [0x8B], [0x8C, 0x34, 0x12], [0x8D, 0x34, 0x12], [0x8E, 0x34, 0x12], [0x8F, 0x34, 0x12]].map decoded = [
    .bra 0x34, .staIndX 0x34, .unmapped82, .unmapped83, .styZp 0x34, .staZp 0x34, .stxZp 0x34, .smb0 0x34, .dey,
    .bitImm 0x34, .txa, .unmapped8B, .styAbs 0x1234, .staAbs 0x1234, .stxAbs 0x1234, .bbs0 0x34 0x12].map some := by
  decide

theorem test_decode_row_9x : [
    [0x90, 0x34], [0x91, 0x34], [0x92, 0x34], [0x93], [0x94, 0x34], [0x95, 0x34], [0x96, 0x34], [0x97, 0x34],
    [0x98], [0x99, 0x34, 0x12], [0x9A], [0x9B], [0x9C, 0x34, 0x12], [0x9D, 0x34, 0x12], [0x9E, 0x34, 0x12],
    [0x9F, 0x34, 0x12]].map decoded = [
    .bcc 0x34, .staIndY 0x34, .staIzp 0x34, .unmapped93, .styZpX 0x34, .staZpX 0x34, .stxZpY 0x34, .smb1 0x34,
    .tya, .staAbsY 0x1234, .txs, .unmapped9B, .stzAbs 0x1234, .staAbsX 0x1234, .stzAbsX 0x1234, .bbs1 0x34 0x12].map some := by
  decide

theorem test_decode_row_Ax : [
    [0xA0, 0x34], [0xA1, 0x34], [0xA2, 0x34], [0xA3], [0xA4, 0x34], [0xA5, 0x34], [0xA6, 0x34], [0xA7, 0x34],
    [0xA8], [0xA9, 0x34], [0xAA], [0xAB], [0xAC, 0x34, 0x12], [0xAD, 0x34, 0x12], [0xAE, 0x34, 0x12],
    [0xAF, 0x34, 0x12]].map decoded = [
    .ldyImm 0x34, .ldaIndX 0x34, .ldxImm 0x34, .unmappedA3, .ldyZp 0x34, .ldaZp 0x34, .ldxZp 0x34, .smb2 0x34,
    .tay, .ldaImm 0x34, .tax, .unmappedAB, .ldyAbs 0x1234, .ldaAbs 0x1234, .ldxAbs 0x1234, .bbs2 0x34 0x12].map some := by
  decide

theorem test_decode_row_Bx : [
    [0xB0, 0x34], [0xB1, 0x34], [0xB2, 0x34], [0xB3], [0xB4, 0x34], [0xB5, 0x34], [0xB6, 0x34], [0xB7, 0x34],
    [0xB8], [0xB9, 0x34, 0x12], [0xBA], [0xBB], [0xBC, 0x34, 0x12], [0xBD, 0x34, 0x12], [0xBE, 0x34, 0x12],
    [0xBF, 0x34, 0x12]].map decoded = [
    .bcs 0x34, .ldaIndY 0x34, .ldaIzp 0x34, .unmappedB3, .ldyZpX 0x34, .ldaZpX 0x34, .ldxZpY 0x34, .smb3 0x34,
    .clv, .ldaAbsY 0x1234, .tsx, .unmappedBB, .ldyAbsX 0x1234, .ldaAbsX 0x1234, .ldxAbsY 0x1234, .bbs3 0x34 0x12].map some := by
  decide

theorem test_decode_row_Cx : [
    [0xC0, 0x34], [0xC1, 0x34], [0xC2], [0xC3], [0xC4, 0x34], [0xC5, 0x34], [0xC6, 0x34], [0xC7, 0x34], [0xC8],
    [0xC9, 0x34], [0xCA], [0xCB], [0xCC, 0x34, 0x12], [0xCD, 0x34, 0x12], [0xCE, 0x34, 0x12], [0xCF, 0x34, 0x12]].map decoded = [
    .cpyImm 0x34, .cmpIndX 0x34, .unmappedC2, .unmappedC3, .cpyZp 0x34, .cmpZp 0x34, .decZp 0x34, .smb4 0x34, .iny,
    .cmpImm 0x34, .dex, .wai, .cpyAbs 0x1234, .cmpAbs 0x1234, .decAbs 0x1234, .bbs4 0x34 0x12].map some := by
  decide

theorem test_decode_row_Dx : [
    [0xD0, 0x34], [0xD1, 0x34], [0xD2, 0x34], [0xD3], [0xD4], [0xD5, 0x34], [0xD6, 0x34], [0xD7, 0x34], [0xD8],
    [0xD9, 0x34, 0x12], [0xDA], [0xDB], [0xDC], [0xDD, 0x34, 0x12], [0xDE, 0x34, 0x12], [0xDF, 0x34, 0x12]].map decoded = [
    .bne 0x34, .cmpIndY 0x34, .cmpIzp 0x34, .unmappedD3, .unmappedD4, .cmpZpX 0x34, .decZpX 0x34, .smb5 0x34, .cld,
    .cmpAbsY 0x1234, .phx, .unmappedDB, .unmappedDC, .cmpAbsX 0x1234, .decAbsX 0x1234, .bbs5 0x34 0x12].map some := by
  decide

theorem test_decode_row_Ex : [
    [0xE0, 0x34], [0xE1, 0x34], [0xE2], [0xE3], [0xE4, 0x34], [0xE5, 0x34], [0xE6, 0x34], [0xE7, 0x34], [0xE8],
    [0xE9, 0x34], [0xEA], [0xEB], [0xEC, 0x34, 0x12], [0xED, 0x34, 0x12], [0xEE, 0x34, 0x12], [0xEF, 0x34, 0x12]].map decoded = [
    .cpxImm 0x34, .sbcIndX 0x34, .unmappedE2, .unmappedE3, .cpxZp 0x34, .sbcZp 0x34, .incZp 0x34, .smb6 0x34, .inx,
    .sbcImm 0x34, .nop, .unmappedEB, .cpxAbs 0x1234, .sbcAbs 0x1234, .incAbs 0x1234, .bbs6 0x34 0x12].map some := by
  decide

theorem test_decode_row_Fx : [
    [0xF0, 0x34], [0xF1, 0x34], [0xF2, 0x34], [0xF3], [0xF4], [0xF5, 0x34], [0xF6, 0x34], [0xF7, 0x34], [0xF8],
    [0xF9, 0x34, 0x12], [0xFA], [0xFB], [0xFC], [0xFD, 0x34, 0x12], [0xFE, 0x34, 0x12], [0xFF, 0x34, 0x12]].map decoded = [
    .beq 0x34, .sbcIndY 0x34, .sbcIzp 0x34, .unmappedF3, .unmappedF4, .sbcZpX 0x34, .incZpX 0x34, .smb7 0x34, .sed,
    .sbcAbsY 0x1234, .plx, .unmappedFB, .unmappedFC, .sbcAbsX 0x1234, .incAbsX 0x1234, .bbs7 0x34 0x12].map some := by
  decide

theorem test_decode_refuses_short_bytes : decode [] = .refused .noBytes ∧ decode [0x8D, 0x23] = .refused (.truncated 0x8D) := by
  decide

theorem test_decodeTableWord_operands_above_nbits_are_zero :
    decodeTableWord 8 0xAD = some (.ldaAbs 0x0000) ∧ decodeTableWord 24 0x9F238D = some (.staAbs 0x9F23) := by
  decide

/-! ### WellFormed refuses each ill-formed parameter set (`93_implementation_defined.md` U19, `60_exceptions.md` R558) -/

theorem test_wellFormed_default : Params.default.wellFormed = true := by decide

theorem test_wellFormed_refuses_no_ram_bank :
    Params.ramBanksOk { numRamBanks := 0 } = false ∧ Params.wellFormed { numRamBanks := 0 } = false := by decide

theorem test_wellFormed_refuses_rom_banks_0_and_33 :
    Params.wellFormed { numRomBanks := 0 } = false ∧ Params.wellFormed { numRomBanks := 33 } = false ∧
      Params.romBanksOk { numRomBanks := 33 } = false := by decide

theorem test_wellFormed_refuses_wait_step_0 :
    Params.waitStepOk { waitStepCycles := 0 } = false ∧ Params.wellFormed { waitStepCycles := 0 } = false := by decide

theorem test_wellFormed_refuses_cpu_clock_0 :
    Params.cpuFreqOk { cpuFreq := 0 } = false ∧ Params.wellFormed { cpuFreq := 0 } = false := by decide

/-! ### Single-step vectors of `95_test_vectors.md` part 2: registers PC A X Y SP P, then CYCLES, then some cells -/

/-- A machine with registers A X Y SP P, some bytes at PC and some bytes elsewhere. -/
def machine (pc : Word) (a x y sp p : Byte) (bytes : List Byte) (cells : List (Word × Byte)) : State :=
  let s := { State.reset with cpu := { State.reset.cpu with
    pc := pc, a := a, x := x, y := y, sp := sp, p := Flags.unpack p } }
  cells.foldl (fun s c => placeByte c.1 c.2 s) (placeBytes pc bytes s)

/-- What a result shows: PC A X Y SP P CYCLES and the cells asked for. -/
def shown (r : Result) (cells : List Word) : Option (List Nat) :=
  match r with
  | .next s => some ([s.cpu.pc.toNat, s.cpu.a.toNat, s.cpu.x.toNat, s.cpu.y.toNat, s.cpu.sp.toNat, s.cpu.p.pack.toNat,
      s.cpu.cycles.toNat] ++ cells.map fun a => (s.cell a).toNat)
  | _ => none

/-- V-LS-1 LDA, V-LS-2 LDA, V-LS-11 LDX, V-LS-12 STA, V-LS-13 STA, V-LS-14 STZ. -/
theorem test_loads_and_stores_1 :
    shown (cpuStep (machine 0x1000 0x00 0x00 0x00 0xFD 0x20 [0xA9, 0x00] [])) [] =
      some [0x1002, 0x00, 0x00, 0x00, 0xFD, 0x22, 2] ∧
    shown (cpuStep (machine 0x1000 0x00 0x00 0x00 0xFD 0x20 [0xA9, 0x80] [])) [] =
      some [0x1002, 0x80, 0x00, 0x00, 0xFD, 0xA0, 2] ∧
    shown (cpuStep (machine 0x1000 0x00 0x00 0x90 0xFD 0x20 [0xB6, 0x80] [(0x0010, 0xFE)])) [] =
      some [0x1002, 0x00, 0xFE, 0x90, 0xFD, 0xA0, 4] ∧
    shown (cpuStep (machine 0x1000 0xAB 0x01 0x00 0xFD 0x20 [0x9D, 0xFF, 0x20] [])) [0x2100] =
      some [0x1003, 0xAB, 0x01, 0x00, 0xFD, 0x20, 5, 0xAB] ∧
    shown (cpuStep (machine 0x1000 0xCD 0x00 0xFF 0xFD 0x20 [0x91, 0x10] [(0x0010, 0x01), (0x0011, 0x30)])) [0x3100] =
      some [0x1002, 0xCD, 0x00, 0xFF, 0xFD, 0x20, 6, 0xCD] ∧
    shown (cpuStep (machine 0x1000 0x00 0x00 0x00 0xFD 0xA1 [0x9C, 0x00, 0x30] [(0x3000, 0xFF)])) [0x3000] =
      some [0x1003, 0x00, 0x00, 0x00, 0xFD, 0xA1, 4, 0x00] := by
  decide

/-- V-LS-16 STX, V-LS-17 LDY. -/
theorem test_loads_and_stores_2 :
    shown (cpuStep (machine 0x1000 0x00 0x80 0x00 0xFD 0x20 [0x86, 0x20] [])) [0x0020] =
      some [0x1002, 0x00, 0x80, 0x00, 0xFD, 0x20, 3, 0x80] ∧
    shown (cpuStep (machine 0x1000 0x00 0x00 0x00 0xFD 0xA0 [0xA0, 0x00] [])) [] =
      some [0x1002, 0x00, 0x00, 0x00, 0xFD, 0x22, 2] := by
  decide

/-- V-ARI-1 ADC, V-ARI-9 SBC, V-ARI-17 INC, V-ARI-18 DEC, V-ARI-19 INC, V-ARI-20 DEC. -/
theorem test_arithmetic_1 :
    shown (cpuStep (machine 0x1000 0x50 0x00 0x00 0xFD 0x20 [0x69, 0x50] [])) [] =
      some [0x1002, 0xA0, 0x00, 0x00, 0xFD, 0xE0, 2] ∧
    shown (cpuStep (machine 0x1000 0x00 0x00 0x00 0xFD 0x21 [0xE9, 0x01] [])) [] =
      some [0x1002, 0xFF, 0x00, 0x00, 0xFD, 0xA0, 2] ∧
    shown (cpuStep (machine 0x1000 0x00 0x00 0x00 0xFD 0x21 [0xE6, 0x10] [(0x0010, 0xFF)])) [0x0010] =
      some [0x1002, 0x00, 0x00, 0x00, 0xFD, 0x23, 5, 0x00] ∧
    shown (cpuStep (machine 0x1000 0x00 0x00 0x00 0xFD 0x20 [0xCE, 0x00, 0x30] [(0x3000, 0x00)])) [0x3000] =
      some [0x1003, 0x00, 0x00, 0x00, 0xFD, 0xA0, 6, 0xFF] ∧
    shown (cpuStep (machine 0x1000 0x7F 0x00 0x00 0xFD 0x20 [0x1A] [])) [] =
      some [0x1001, 0x80, 0x00, 0x00, 0xFD, 0xA0, 2] ∧
    shown (cpuStep (machine 0x1000 0x01 0x00 0x00 0xFD 0x20 [0x3A] [])) [] =
      some [0x1001, 0x00, 0x00, 0x00, 0xFD, 0x22, 2] := by
  decide

/-- V-ARI-21 INX, V-ARI-22 DEY, V-ARI-25 INY, V-ARI-26 DEX. -/
theorem test_arithmetic_2 :
    shown (cpuStep (machine 0x1000 0x00 0xFF 0x00 0xFD 0x20 [0xE8] [])) [] =
      some [0x1001, 0x00, 0x00, 0x00, 0xFD, 0x22, 2] ∧
    shown (cpuStep (machine 0x1000 0x00 0x00 0x00 0xFD 0x20 [0x88] [])) [] =
      some [0x1001, 0x00, 0x00, 0xFF, 0xFD, 0xA0, 2] ∧
    shown (cpuStep (machine 0x1000 0x00 0x00 0x7F 0xFD 0x20 [0xC8] [])) [] =
      some [0x1001, 0x00, 0x00, 0x80, 0xFD, 0xA0, 2] ∧
    shown (cpuStep (machine 0x1000 0x00 0x01 0x00 0xFD 0x20 [0xCA] [])) [] =
      some [0x1001, 0x00, 0x00, 0x00, 0xFD, 0x22, 2] := by
  decide

/-- V-DEC-1 ADC, V-DEC-7 SBC. -/
theorem test_decimal_1 :
    shown (cpuStep (machine 0x1000 0x09 0x00 0x00 0xFD 0x28 [0x69, 0x01] [])) [] =
      some [0x1002, 0x10, 0x00, 0x00, 0xFD, 0x28, 2] ∧
    shown (cpuStep (machine 0x1000 0x00 0x00 0x00 0xFD 0x29 [0xE9, 0x01] [])) [] =
      some [0x1002, 0x99, 0x00, 0x00, 0xFD, 0xA8, 2] := by
  decide

/-- V-LOG-1 AND, V-LOG-2 ORA, V-LOG-3 EOR, V-LOG-4 EOR. -/
theorem test_logical_1 :
    shown (cpuStep (machine 0x1000 0xF0 0x00 0x00 0xFD 0x20 [0x29, 0x0F] [])) [] =
      some [0x1002, 0x00, 0x00, 0x00, 0xFD, 0x22, 2] ∧
    shown (cpuStep (machine 0x1000 0x01 0x00 0x00 0xFD 0x20 [0x05, 0x10] [(0x0010, 0x80)])) [] =
      some [0x1002, 0x81, 0x00, 0x00, 0xFD, 0xA0, 3] ∧
    shown (cpuStep (machine 0x1000 0xFF 0x00 0x00 0xFD 0x20 [0x49, 0xFF] [])) [] =
      some [0x1002, 0x00, 0x00, 0x00, 0xFD, 0x22, 2] ∧
    shown (cpuStep (machine 0x1000 0x0F 0x00 0x80 0xFD 0x20 [0x59, 0x80, 0x20] [(0x2100, 0xFF)])) [] =
      some [0x1003, 0xF0, 0x00, 0x80, 0xFD, 0xA0, 5] := by
  decide

/-- V-SH-1 ASL, V-SH-3 LSR, V-SH-4 ROL, V-SH-5 ROR, V-SH-6 ROR, V-SH-7 ASL. -/
theorem test_shifts_1 :
    shown (cpuStep (machine 0x1000 0x80 0x00 0x00 0xFD 0x20 [0x0A] [])) [] =
      some [0x1001, 0x00, 0x00, 0x00, 0xFD, 0x23, 2] ∧
    shown (cpuStep (machine 0x1000 0x01 0x00 0x00 0xFD 0xA0 [0x4A] [])) [] =
      some [0x1001, 0x00, 0x00, 0x00, 0xFD, 0x23, 2] ∧
    shown (cpuStep (machine 0x1000 0x80 0x00 0x00 0xFD 0x21 [0x2A] [])) [] =
      some [0x1001, 0x01, 0x00, 0x00, 0xFD, 0x21, 2] ∧
    shown (cpuStep (machine 0x1000 0x01 0x00 0x00 0xFD 0x21 [0x6A] [])) [] =
      some [0x1001, 0x80, 0x00, 0x00, 0xFD, 0xA1, 2] ∧
    shown (cpuStep (machine 0x1000 0x00 0x00 0x00 0xFD 0x20 [0x66, 0x10] [(0x0010, 0x00)])) [0x0010] =
      some [0x1002, 0x00, 0x00, 0x00, 0xFD, 0x22, 5, 0x00] ∧
    shown (cpuStep (machine 0x1000 0x00 0x01 0x00 0xFD 0x20 [0x1E, 0x00, 0x20] [(0x2001, 0x55)])) [0x2001] =
      some [0x1003, 0x00, 0x01, 0x00, 0xFD, 0xA0, 6, 0xAA] := by
  decide

/-- V-SH-9 LSR. -/
theorem test_shifts_2 :
    shown (cpuStep (machine 0x1000 0x00 0x00 0x00 0xFD 0x20 [0x4E, 0x00, 0x30] [(0x3000, 0xFF)])) [0x3000] =
      some [0x1003, 0x00, 0x00, 0x00, 0xFD, 0x21, 6, 0x7F] := by
  decide

/-- V-CMP-1 CMP, V-CMP-4 CPX, V-CMP-5 CPY. -/
theorem test_compares_1 :
    shown (cpuStep (machine 0x1000 0x40 0x00 0x00 0xFD 0x20 [0xC9, 0x40] [])) [] =
      some [0x1002, 0x40, 0x00, 0x00, 0xFD, 0x23, 2] ∧
    shown (cpuStep (machine 0x1000 0x00 0x00 0x00 0xFD 0x20 [0xE4, 0x10] [(0x0010, 0xFF)])) [] =
      some [0x1002, 0x00, 0x00, 0x00, 0xFD, 0x20, 3] ∧
    shown (cpuStep (machine 0x1000 0x00 0x00 0x00 0xFD 0x20 [0xC0, 0x00] [])) [] =
      some [0x1002, 0x00, 0x00, 0x00, 0xFD, 0x23, 2] := by
  decide

/-- V-BR-1 BEQ, V-BR-4 BNE, V-BR-6 BRA, V-BR-8 BCC, V-BR-9 BMI, V-BR-10 BVS. -/
theorem test_branches_1 :
    shown (cpuStep (machine 0x1000 0x00 0x00 0x00 0xFD 0x20 [0xF0, 0x10] [])) [] =
      some [0x1002, 0x00, 0x00, 0x00, 0xFD, 0x20, 2] ∧
    shown (cpuStep (machine 0x2000 0x00 0x00 0x00 0xFD 0x20 [0xD0, 0xFD] [])) [] =
      some [0x1FFF, 0x00, 0x00, 0x00, 0xFD, 0x20, 4] ∧
    shown (cpuStep (machine 0x1000 0x00 0x00 0x00 0xFD 0x20 [0x80, 0x80] [])) [] =
      some [0x0F82, 0x00, 0x00, 0x00, 0xFD, 0x20, 4] ∧
    shown (cpuStep (machine 0xFFF0 0x00 0x00 0x00 0xFD 0x20 [0x90, 0x7F] [])) [] =
      some [0x0071, 0x00, 0x00, 0x00, 0xFD, 0x20, 4] ∧
    shown (cpuStep (machine 0x1000 0x00 0x00 0x00 0xFD 0xA0 [0x30, 0x02] [])) [] =
      some [0x1004, 0x00, 0x00, 0x00, 0xFD, 0xA0, 3] ∧
    shown (cpuStep (machine 0x1000 0x00 0x00 0x00 0xFD 0x20 [0x70, 0x02] [])) [] =
      some [0x1002, 0x00, 0x00, 0x00, 0xFD, 0x20, 2] := by
  decide

/-- V-BR-11 BCS, V-BR-12 BPL, V-BR-13 BVC, V-BR-14 BBR3, V-BR-16 BBS7, V-BR-17 BBS0. -/
theorem test_branches_2 :
    shown (cpuStep (machine 0x1000 0x00 0x00 0x00 0xFD 0x21 [0xB0, 0x02] [])) [] =
      some [0x1004, 0x00, 0x00, 0x00, 0xFD, 0x21, 3] ∧
    shown (cpuStep (machine 0x1000 0x00 0x00 0x00 0xFD 0xA0 [0x10, 0x02] [])) [] =
      some [0x1002, 0x00, 0x00, 0x00, 0xFD, 0xA0, 2] ∧
    shown (cpuStep (machine 0x1000 0x00 0x00 0x00 0xFD 0x20 [0x50, 0x02] [])) [] =
      some [0x1004, 0x00, 0x00, 0x00, 0xFD, 0x20, 3] ∧
    shown (cpuStep (machine 0x1000 0x00 0x00 0x00 0xFD 0x20 [0x3F, 0x10, 0x05] [(0x0010, 0xF7)])) [] =
      some [0x1008, 0x00, 0x00, 0x00, 0xFD, 0x20, 6] ∧
    shown (cpuStep (machine 0x10C0 0x00 0x00 0x00 0xFD 0x20 [0xFF, 0x10, 0x7F] [(0x0010, 0x80)])) [] =
      some [0x1142, 0x00, 0x00, 0x00, 0xFD, 0x20, 7] ∧
    shown (cpuStep (machine 0x1000 0x00 0x00 0x00 0xFD 0x20 [0x8F, 0x10, 0xFD] [(0x0010, 0x01)])) [] =
      some [0x1000, 0x00, 0x00, 0x00, 0xFD, 0x20, 6] := by
  decide

/-- V-J-1 JMP, V-J-2 JMP, V-J-4 JSR, V-J-6 RTS, V-J-7 RTI, V-J-9 BRK. -/
theorem test_jumps_1 :
    shown (cpuStep (machine 0x1000 0x00 0x00 0x00 0xFD 0x20 [0x4C, 0x34, 0x12] [])) [] =
      some [0x1234, 0x00, 0x00, 0x00, 0xFD, 0x20, 3] ∧
    shown (cpuStep (machine 0x1000 0x00 0x00 0x00 0xFD 0x20 [0x6C, 0xFF, 0x20] [(0x20FF, 0x34), (0x2100, 0x12)])) [] =
      some [0x1234, 0x00, 0x00, 0x00, 0xFD, 0x20, 6] ∧
    shown (cpuStep (machine 0x1000 0x00 0x00 0x00 0xFD 0x20 [0x20, 0x00, 0x30] [])) [0x01FD, 0x01FC] =
      some [0x3000, 0x00, 0x00, 0x00, 0xFB, 0x20, 6, 0x10, 0x02] ∧
    shown (cpuStep (machine 0x1000 0x00 0x00 0x00 0xFB 0x20 [0x60] [(0x01FC, 0xFF), (0x01FD, 0xFF)])) [] =
      some [0x0000, 0x00, 0x00, 0x00, 0xFD, 0x20, 6] ∧
    shown (cpuStep (machine 0x1000 0x00 0x00 0x00 0xFA 0x20 [0x40] [(0x01FB, 0xC3), (0x01FC, 0x34), (0x01FD, 0x12)])) [] =
      some [0x1234, 0x00, 0x00, 0x00, 0xFD, 0xE3, 6] ∧
    shown (cpuStep (machine 0x1000 0x00 0x00 0x00 0xFD 0x28 [0x00, 0x77] [(0xFFFE, 0x00), (0xFFFF, 0xE0)])) [0x01FD, 0x01FC, 0x01FB] =
      some [0xE000, 0x00, 0x00, 0x00, 0xFA, 0x24, 7, 0x10, 0x02, 0x38] := by
  decide

/-- V-ST-1 PHA, V-ST-3 PLA, V-ST-4 PHP, V-ST-6 PLP, V-ST-8 PHX, V-ST-9 PHY. -/
theorem test_stack_1 :
    shown (cpuStep (machine 0x1000 0x5A 0x00 0x00 0xFD 0x20 [0x48] [])) [0x01FD] =
      some [0x1001, 0x5A, 0x00, 0x00, 0xFC, 0x20, 3, 0x5A] ∧
    shown (cpuStep (machine 0x1000 0x00 0x00 0x00 0xFF 0x20 [0x68] [(0x0100, 0x80)])) [] =
      some [0x1001, 0x80, 0x00, 0x00, 0x00, 0xA0, 4] ∧
    shown (cpuStep (machine 0x1000 0x00 0x00 0x00 0xFD 0x20 [0x08] [])) [0x01FD] =
      some [0x1001, 0x00, 0x00, 0x00, 0xFC, 0x20, 3, 0x30] ∧
    shown (cpuStep (machine 0x1000 0x00 0x00 0x00 0xFC 0xFF [0x28] [(0x01FD, 0x00)])) [] =
      some [0x1001, 0x00, 0x00, 0x00, 0xFD, 0x20, 4] ∧
    shown (cpuStep (machine 0x1000 0x00 0x11 0x00 0xFD 0x20 [0xDA] [])) [0x01FD] =
      some [0x1001, 0x00, 0x11, 0x00, 0xFC, 0x20, 3, 0x11] ∧
    shown (cpuStep (machine 0x1000 0x00 0x00 0x22 0xFD 0x20 [0x5A] [])) [0x01FD] =
      some [0x1001, 0x00, 0x00, 0x22, 0xFC, 0x20, 3, 0x22] := by
  decide

/-- V-ST-10 PLY, V-ST-11 PLX. -/
theorem test_stack_2 :
    shown (cpuStep (machine 0x1000 0x00 0x00 0x55 0xFC 0x20 [0x7A] [(0x01FD, 0x00)])) [] =
      some [0x1001, 0x00, 0x00, 0x00, 0xFD, 0x22, 4] ∧
    shown (cpuStep (machine 0x1000 0x00 0x00 0x00 0xFC 0x20 [0xFA] [(0x01FD, 0xF0)])) [] =
      some [0x1001, 0x00, 0xF0, 0x00, 0xFD, 0xA0, 4] := by
  decide

/-- V-FT-1 CLC, V-FT-2 SEC, V-FT-3 CLI, V-FT-4 SEI, V-FT-5 CLD, V-FT-6 SED. -/
theorem test_flags_and_transfers_1 :
    shown (cpuStep (machine 0x1000 0x00 0x00 0x00 0xFD 0x21 [0x18] [])) [] =
      some [0x1001, 0x00, 0x00, 0x00, 0xFD, 0x20, 2] ∧
    shown (cpuStep (machine 0x1000 0x00 0x00 0x00 0xFD 0x20 [0x38] [])) [] =
      some [0x1001, 0x00, 0x00, 0x00, 0xFD, 0x21, 2] ∧
    shown (cpuStep (machine 0x1000 0x00 0x00 0x00 0xFD 0x24 [0x58] [])) [] =
      some [0x1001, 0x00, 0x00, 0x00, 0xFD, 0x20, 2] ∧
    shown (cpuStep (machine 0x1000 0x00 0x00 0x00 0xFD 0x20 [0x78] [])) [] =
      some [0x1001, 0x00, 0x00, 0x00, 0xFD, 0x24, 2] ∧
    shown (cpuStep (machine 0x1000 0x00 0x00 0x00 0xFD 0x28 [0xD8] [])) [] =
      some [0x1001, 0x00, 0x00, 0x00, 0xFD, 0x20, 2] ∧
    shown (cpuStep (machine 0x1000 0x00 0x00 0x00 0xFD 0x20 [0xF8] [])) [] =
      some [0x1001, 0x00, 0x00, 0x00, 0xFD, 0x28, 2] := by
  decide

/-- V-FT-7 CLV, V-FT-8 TAX, V-FT-9 TAY, V-FT-10 TXA, V-FT-11 TYA, V-FT-12 TSX. -/
theorem test_flags_and_transfers_2 :
    shown (cpuStep (machine 0x1000 0x00 0x00 0x00 0xFD 0x60 [0xB8] [])) [] =
      some [0x1001, 0x00, 0x00, 0x00, 0xFD, 0x20, 2] ∧
    shown (cpuStep (machine 0x1000 0x80 0x00 0x00 0xFD 0x20 [0xAA] [])) [] =
      some [0x1001, 0x80, 0x80, 0x00, 0xFD, 0xA0, 2] ∧
    shown (cpuStep (machine 0x1000 0x00 0x00 0x05 0xFD 0x20 [0xA8] [])) [] =
      some [0x1001, 0x00, 0x00, 0x00, 0xFD, 0x22, 2] ∧
    shown (cpuStep (machine 0x1000 0x00 0x7F 0x00 0xFD 0x20 [0x8A] [])) [] =
      some [0x1001, 0x7F, 0x7F, 0x00, 0xFD, 0x20, 2] ∧
    shown (cpuStep (machine 0x1000 0x05 0x00 0x00 0xFD 0x20 [0x98] [])) [] =
      some [0x1001, 0x00, 0x00, 0x00, 0xFD, 0x22, 2] ∧
    shown (cpuStep (machine 0x1000 0x00 0x00 0x00 0xFD 0x20 [0xBA] [])) [] =
      some [0x1001, 0x00, 0xFD, 0x00, 0xFD, 0xA0, 2] := by
  decide

/-- V-FT-13 TXS. -/
theorem test_flags_and_transfers_3 :
    shown (cpuStep (machine 0x1000 0x00 0x00 0x00 0xFD 0x20 [0x9A] [])) [] =
      some [0x1001, 0x00, 0x00, 0x00, 0x00, 0x20, 2] := by
  decide

/-- V-BIT-1 BIT, V-BIT-2 BIT, V-BIT-5 TRB, V-BIT-6 TSB, V-BIT-7 TSB, V-BIT-8 RMB0. -/
theorem test_bits_1 :
    shown (cpuStep (machine 0x1000 0x01 0x00 0x00 0xFD 0x20 [0x24, 0x10] [(0x0010, 0xC0)])) [] =
      some [0x1002, 0x01, 0x00, 0x00, 0xFD, 0xE2, 3] ∧
    shown (cpuStep (machine 0x1000 0x01 0x00 0x00 0xFD 0x20 [0x89, 0xC0] [])) [] =
      some [0x1002, 0x01, 0x00, 0x00, 0xFD, 0x22, 2] ∧
    shown (cpuStep (machine 0x1000 0x0F 0x00 0x00 0xFD 0x20 [0x14, 0x10] [(0x0010, 0x3C)])) [0x0010] =
      some [0x1002, 0x0F, 0x00, 0x00, 0xFD, 0x20, 5, 0x30] ∧
    shown (cpuStep (machine 0x1000 0x0F 0x00 0x00 0xFD 0x20 [0x04, 0x10] [(0x0010, 0x30)])) [0x0010] =
      some [0x1002, 0x0F, 0x00, 0x00, 0xFD, 0x22, 5, 0x3F] ∧
    shown (cpuStep (machine 0x1000 0x81 0x00 0x00 0xFD 0x20 [0x0C, 0x00, 0x30] [(0x3000, 0x01)])) [0x3000] =
      some [0x1003, 0x81, 0x00, 0x00, 0xFD, 0x20, 6, 0x81] ∧
    shown (cpuStep (machine 0x1000 0x00 0x00 0x00 0xFD 0x20 [0x07, 0x10] [(0x0010, 0xFF)])) [0x0010] =
      some [0x1002, 0x00, 0x00, 0x00, 0xFD, 0x20, 5, 0xFE] := by
  decide

/-- V-BIT-9 SMB7, V-BIT-10 RMB3. -/
theorem test_bits_2 :
    shown (cpuStep (machine 0x1000 0x00 0x00 0x00 0xFD 0x20 [0xF7, 0x10] [(0x0010, 0x00)])) [0x0010] =
      some [0x1002, 0x00, 0x00, 0x00, 0xFD, 0x20, 5, 0x80] ∧
    shown (cpuStep (machine 0x1000 0x00 0x00 0x00 0xFD 0x20 [0x37, 0x10] [(0x0010, 0xF7)])) [0x0010] =
      some [0x1002, 0x00, 0x00, 0x00, 0xFD, 0x20, 5, 0xF7] := by
  decide

/-- V-SYS-1 NOP, V-SYS-2 UNMAPPED_02, V-SYS-3 UNMAPPED_5C, V-SYS-4 UNMAPPED_DB, V-SYS-5 WAI. -/
theorem test_system_1 :
    shown (cpuStep (machine 0x1000 0x00 0x00 0x00 0xFD 0x20 [0xEA] [])) [] =
      some [0x1001, 0x00, 0x00, 0x00, 0xFD, 0x20, 2] ∧
    shown (cpuStep (machine 0x1000 0x00 0x00 0x00 0xFD 0x20 [0x02] [])) [] =
      some [0x1001, 0x00, 0x00, 0x00, 0xFD, 0x20, 2] ∧
    shown (cpuStep (machine 0x1000 0x00 0x00 0x00 0xFD 0x20 [0x5C] [])) [] =
      some [0x1001, 0x00, 0x00, 0x00, 0xFD, 0x20, 2] ∧
    shown (cpuStep (machine 0x1000 0x00 0x00 0x00 0xFD 0x20 [0xDB] [])) [] =
      some [0x1001, 0x00, 0x00, 0x00, 0xFD, 0x20, 2] ∧
    shown (cpuStep (machine 0x1000 0x00 0x00 0x00 0xFD 0x20 [0xCB] [])) [] =
      some [0x1001, 0x00, 0x00, 0x00, 0xFD, 0x20, 3] := by
  decide

/-! ### Interrupts, video and memory: vectors of part 2 and rule examples -/

/-- V-INT-1: registers before an entry at $1234. -/
def interrupted (p : Byte) : State :=
  machine 0x1234 0 0 0 0xFD p [] [(0xFFFE, 0x00), (0xFFFF, 0xE0), (0xFFFA, 0x00), (0xFFFB, 0xF0)]

theorem test_irq_entry_vint1 : shown (.next (takeTrap .irq (interrupted 0x21))) [0x01FD, 0x01FC, 0x01FB] =
    some [0xE000, 0, 0, 0, 0xFA, 0x25, 0, 0x12, 0x34, 0x21] := by decide

theorem test_nmi_entry_vint2 : shown (.next (takeTrap .nmi (interrupted 0x31))) [0x01FD, 0x01FC, 0x01FB] =
    some [0xF000, 0, 0, 0, 0xFA, 0x35, 0, 0x12, 0x34, 0x31] := by decide

theorem test_irq_keeps_d_and_stored_b_vint3 :
    shown (.next (takeTrap .irq (interrupted 0x39))) [0x01FB] =
      some [0xE000, 0, 0, 0, 0xFA, 0x3D, 0, 0x29] := by decide

theorem test_brk_completes_from_reset :
    shown (cpuStep { State.reset with bus := { State.reset.bus with ram := [] } }) [0x01FD, 0x01FC, 0x01FB] =
      some [0x0000, 0, 0, 0, 0xFA, 0x24, 7, 0x00, 0x02, 0x30] := by decide

/-- V-S6: two sprites of 8 by 8 pixels with mask $10 over each other, on the first line of the screen. -/
def twoSprites : Video :=
  let sprite : List Byte := [0x00, 0x80, 0x00, 0x00, 0x00, 0x00, 0x1C, 0x00]
  { State.powerOn.video with
    vram := ((Memory.writeAll [] 0 (List.replicate 64 0x01)).writeAll 0x1FC00 sprite).writeAll 0x1FC08 sprite
    composer := { State.powerOn.video.composer with video := 0x41 }
    ien := 0x4 }

theorem test_sprites_collide_vs6 : (twoSprites.renderSpriteLine Params.default 0).collisions = 0x10 := by
  decide +kernel

theorem test_end_of_visible_vs6 :
    ({ twoSprites with spriteCollisions := 0x10 }).endOfVisible.isr = 0x14 ∧
      ({ twoSprites with spriteCollisions := 0x10 }).endOfVisible.spriteCollisions = 0x00 := by decide

/-- `51_renderer.md` R442. -/
theorem test_mix_r442 : mix 5 3 1 2 = 5 ∧ mix 5 1 1 2 = 2 ∧ mix 5 2 1 2 = 2 ∧ mix 5 2 1 0 = 5 ∧ mix 5 1 1 0 = 1 ∧
    mix 5 1 0 0 = 5 := by decide

/-- `51_renderer.md` R457: text layer, character $41 in colours 1 on 6. -/
theorem test_text_pixel_r457 :
    let v : Video := { State.powerOn.video with
      vram := [(0x0000, 0x41), (0x0001, 0x61), (0x2208, 0x80)], layer0 := ⟨0x00, 0x00, 0x10, 0, 0, 0, 0⟩ }
    v.layerPixel Params.default false 0 0 = 1 ∧ v.layerPixel Params.default false 1 0 = 6 := by decide

/-- `50_video_registers.md` R376: increment code 2 moves the cursor by 1 at each read of register 3. -/
theorem test_data_port_r376 :
    let s : State := { State.powerOn with
      video := { State.powerOn.video with vram := [(0, 0x11), (1, 0x22), (2, 0x33)] } }
    let s := memWrite 0x9F22 0x10 (memWrite 0x9F21 0x00 (memWrite 0x9F20 0x00 s))
    (memRead 0x9F23 s).1 = 0x11 ∧ (memRead 0x9F23 (memRead 0x9F23 s).2).1 = 0x22 ∧
      (memRead 0x9F23 (memRead 0x9F23 s).2).2.video.cur0.addr = 2 := by decide

theorem test_withFetchWord_runs_the_word :
    shown (step (State.reset.withFetchWord 16 0x5AA9)) [] = some [0x0002, 0x5A, 0, 0, 0xFD, 0x20, 2] := by
  decide

/-! ### Witnesses: every statement with hypotheses has a concrete state that meets them -/

/-- Whether a result is a next state. -/
def goesOn (r : Result) : Bool :=
  match r with
  | .next _ => true
  | _ => false

/-- A machine at $1000 with flags C I clear and some bytes at PC. -/
def at1000 (bytes : List Byte) : State := machine 0x1000 0x12 0x34 0x56 0xFD 0x20 bytes []

theorem witness_EncodeDecodeRoundTrip : decode [0x8D, 0x23, 0x9F, 0x42] = .ok (.staAbs 0x9F23) [0x42] := by decide

theorem witness_DecoderRefusesOnlyShortBytes :
    opcodeLength 0x8D = 3 ∧ opcodeLength 0xA9 = 2 ∧ opcodeLength 0xEA = 1 ∧ decode [0x8D, 0x23] = .refused (.truncated 0x8D) := by
  decide

theorem witness_StepRunsDecodedInstruction :
    (at1000 [0xA9, 0x0A]).ready = true ∧ (at1000 [0xA9, 0x0A]).cfg.schedule = .machineTick ∧
      (∀ k, k < (encode (.ldaImm 0x0A)).length → region ((at1000 [0xA9, 0x0A]).cpu.pc + BitVec.ofNat 16 k) ≠ .io) ∧
      decode ((List.range (encode (.ldaImm 0x0A)).length).map fun k =>
        (at1000 [0xA9, 0x0A]).cell ((at1000 [0xA9, 0x0A]).cpu.pc + BitVec.ofNat 16 k)) = .ok (.ldaImm 0x0A) [] := by
  decide

theorem witness_StepRunsDecodedInstruction_at_the_last_address :
    (machine 0xFFFF 0 0 0 0xFD 0x20 [0xEA] []).ready = true ∧ region 0xFFFF ≠ .io ∧
      (machine 0xFFFF 0 0 0 0xFD 0x20 [0xEA] []).cell 0xFFFF = 0xEA := by decide

theorem witness_StepAnswersNextExactlyOnLegalParameters :
    State.reset.cfg.wellFormed = true ∧ Params.wellFormed { numRomBanks := 33 } = false := by decide

theorem witness_CyclesChargedByEveryInstruction :
    encode (.ldaAbsX 0x20FF) = 0xBD :: [0xFF, 0x20] ∧ goesOn (exec (.ldaAbsX 0x20FF) State.reset) = true ∧
      encode .unmappedDB = 0xDB :: [] ∧ State.reset.cfg.opcodeDb = .nop ∧
      goesOn (exec .unmappedDB State.reset) = true := by decide

theorem witness_CyclesChargedByEveryInstruction_at_the_default : State.reset.cfg = Params.default := rfl

theorem witness_reads_on_and_off_devices :
    region ((AddrMode.abs 0x9F00).address State.reset) = .io ∧
      region ((AddrMode.abs 0x9FFF).address State.reset) = .io ∧
      region ((AddrMode.abs 0x9EFF).address State.reset) ≠ .io ∧
      region ((AddrMode.abs 0xA000).address State.reset) ≠ .io := by decide

theorem witness_stores_in_every_region :
    region 0x0000 = .directRam ∧ region 0x9EFF = .directRam ∧ region 0x9F00 = .io ∧ region 0x9FFF = .io ∧
      region 0xA000 = .bankedRam ∧ region 0xBFFF = .bankedRam ∧ region 0xC000 = .bankedRom ∧
      region 0xFFFF = .bankedRom := by decide

/-- A machine whose flag D is `d` and whose A is $99. -/
def decimalMode (d : Bool) : State :=
  { State.reset with cpu := { State.reset.cpu with a := 0x99, p := { State.reset.cpu.p with d := d } } }

theorem witness_AddWithCarry_and_SubtractWithBorrow :
    (decimalMode false).cpu.p.d = false ∧ (decimalMode true).cpu.p.d = true ∧
      decimalDigits (decimalMode true).cpu.a ∧
      decimalDigits ((Operand.imm 0x09).read (decimalMode true)).1 := by
  unfold decimalDigits
  decide

theorem witness_Jumps_pointer_in_ram : region 0x30FF ≠ .io ∧ region (0x30FF + 1) ≠ .io := by decide

theorem witness_NoOperation :
    let s : State := { at1000 [0xEA] with cfg := { Params.default with schedule := .cpuTick } }
    s.ready = true ∧ s.cfg.schedule = .cpuTick ∧ region s.cpu.pc ≠ .io ∧ s.cell s.cpu.pc = 0xEA := by decide

theorem witness_WaitForInterrupt :
    let s : State := { State.reset with
      cpu := { State.reset.cpu with wait := true, p := { State.reset.cpu.p with i := true } } }
    s.cfg.wellFormed = true ∧ s.script = [] ∧ s.cpu.wait = true ∧ s.cpu.p.i = true ∧ s.pins.nmiRequests = 0 ∧
      s.cfg.schedule = .machineTick := by
  decide

theorem witness_UnmappedOpcodesDoNothing :
    State.reset.cfg.opcodeDb = .nop ∧ Params.opcodeDb { opcodeDb := .stop } = .stop ∧
      (State.reset.setStopped true).cpu.stopped = true := by decide

theorem witness_BusReadByRegion_boundaries :
    (0x9EFF : Word).toNat ≤ 0x9EFF ∧ 0x9F00 ≤ (0x9F00 : Word).toNat ∧ (0x9FFF : Word).toNat ≤ 0x9FFF ∧
      0xA000 ≤ (0xA000 : Word).toNat ∧ (0xBFFF : Word).toNat ≤ 0xBFFF ∧ 0xC000 ≤ (0xC000 : Word).toNat := by decide

theorem witness_WritesThatAreIgnored_boundaries :
    0x9FC0 ≤ (0x9FC0 : Word).toNat ∧ (0x9FFF : Word).toNat ≤ 0x9FFF ∧ 0xC000 ≤ (0xFFFF : Word).toNat := by decide

/-- `20_memory.md` R97, R102: the neighbours at the ends of the stub ranges. -/
theorem witness_WritesThatAreIgnored_stubs :
    (memRead 0x9F40 State.reset).1 = 0x00 ∧ (memRead 0x9F5F State.reset).1 = 0x00 ∧
      (memRead 0x9F80 State.reset).1 = 0x00 ∧ (memRead 0x9F9F State.reset).1 = 0x00 ∧
      (memRead 0x9FA0 State.reset).1 = 0xFF ∧ (memRead 0x9FAF State.reset).1 = 0xFF ∧
      (memRead 0x9FC0 State.reset).1 = 0x00 ∧ (memRead 0x9FB0 (memWrite 0x9FAF 0x5A State.reset)).1 = 0x00 := by decide

theorem witness_BanksAreReducedModuloTheirCount :
    1 ≤ State.reset.cfg.numRamBanks ∧ 0xA000 ≤ (0xBFFF : Word).toNat ∧ (0xBFFF : Word).toNat ≤ 0xBFFF ∧
      5 % 2 ^ State.reset.cfg.ramBankRegWidth % State.reset.cfg.numRamBanks =
        37 % 2 ^ State.reset.cfg.ramBankRegWidth % State.reset.cfg.numRamBanks ∧
      5 % 2 ^ State.reset.cfg.ramBankRegWidth % State.reset.cfg.numRamBanks ≠
        6 % 2 ^ State.reset.cfg.ramBankRegWidth % State.reset.cfg.numRamBanks := by decide

theorem witness_OnlyPortsAndDevicesReactToReads :
    routed 0x9EFF = none ∧ routed 0x9F00 = some (.audio, 0) ∧ routed 0x9F1F = some (.audio, 31) ∧
      routed 0x9F20 = none ∧ routed 0x9F3A = none ∧ routed 0x9F3B = some (.pcm, 0) ∧ routed 0x9F3D = some (.pcm, 2) ∧
      routed 0x9F3E = some (.spi, 0) ∧ routed 0x9F3F = some (.spi, 1) ∧ routed 0x9F40 = none ∧
      routed 0x9F5F = none ∧ routed 0x9F60 = some (.via1, 0) ∧ routed 0x9F6F = some (.via1, 15) ∧
      routed 0x9F70 = some (.via2, 0) ∧ routed 0x9F7F = some (.via2, 15) ∧ routed 0x9F80 = none ∧
      State.reset.cfg.extStubs = true := by decide

/-- The emulator registers of the reset state after a store of $5A to register `k`. -/
def emuStored (k : Nat) : Emu := (memWrite (0x9FB0 + BitVec.ofNat 16 k) 0x5A State.reset).emu

theorem witness_EmulatorRegisters :
    emuStored 0 = ⟨0x5A, 0, 0, 0, 0, 0, 0, 0⟩ ∧ emuStored 5 = ⟨0, 0, 0, 0, 0, 0x5A, 0, 0⟩ ∧
      emuStored 6 = State.reset.emu ∧ emuStored 12 = State.reset.emu ∧
      emuStored 13 = ⟨0, 0, 0, 0, 0, 0, 0x5A, 0⟩ ∧ emuStored 14 = State.reset.emu ∧
      emuStored 15 = ⟨0, 0, 0, 0, 0, 0, 0, 0x5A⟩ := by decide

/-- A machine with a request of each kind. -/
def requested (nmi : Nat) (line masked : Bool) : State :=
  { State.reset with
    pins := { extIrq := line, nmiRequests := nmi, pcmFifoLow := false }
    cpu := { State.reset.cpu with p := { State.reset.cpu.p with i := masked } } }

theorem witness_InterruptRequestLevel :
    0 < (requested 1 true false).pins.nmiRequests ∧
      ((requested 0 true false).pins.nmiRequests = 0 ∧ irqLevel (requested 0 true false) = true ∧
        (requested 0 true false).cpu.p.i = false) ∧
      (irqLevel (requested 0 false false) = false ∧ (requested 0 true true).cpu.p.i = true) ∧
      (requested 1 true false).cfg.wellFormed = true ∧ (requested 1 true false).script = [] ∧
      (requested 1 true false).cfg.schedule = .machineTick := by decide

/-- Before each border between the lines of a line step: eff = -1, 0, 479 and 480, and the end of the frame. -/
theorem witness_line_step_at_its_boundaries :
    let v : Video := State.reset.video
    effective Params.default v 9 = -1 ∧ effective Params.default v 10 = 0 ∧ effective Params.default v 489 = 479 ∧
      effective Params.default v 490 = 480 ∧ effective Params.default v 0 = -10 ∧
      (Video.lineStep Params.default { v with scanY := 524 }).scanY = 0 ∧
      (Video.lineStep Params.default { v with scanY := 489, ien := 4, isr := 8, spriteCollisions := 0x30 }).isr = 0x3C ∧
      (Video.lineStep Params.default { v with scanY := 489, isr := 8, spriteCollisions := 0x30 }).isr = 0x08 ∧
      (Video.lineStep Params.default { v with scanY := 490, irqLine := 481 }).isr = 0x02 := by decide

/-- `50_video_registers.md` R381, R383: each of the two registers leaves the other part of the compare line. -/
theorem test_compare_line_parts :
    let s : State := { State.reset with video := { State.reset.video with irqLine := 0x1A5 } }
    (memWrite 0x9F26 0x02 s).video.irqLine = 0x0A5 ∧ (memWrite 0x9F28 0x3C s).video.irqLine = 0x13C ∧
      (memRead 0x9F26 s).1 = 0x80 ∧ (memRead 0x9F28 s).1 = 0xA5 ∧
      (memRead 0x9F25 (memWrite 0x9F25 0x03 s)).1 = 0x03 := by decide

/-- `50_video_registers.md` R416: a sprite of 64 by 8 pixels at x = $3C0 stands at -64, and $3BF stays. -/
theorem test_sprite_wrap_r416 :
    coordinate 0xC0 0x03 64 = -64 ∧ coordinate 0xBF 0x03 64 = 0x3BF ∧ spriteCoord 0xC0 0x03 64 = -64 ∧
      spriteCoord 0xBF 0x03 64 = 0x3BF ∧ coordinate 0xF8 0xFF 8 = -8 := by decide

/-- The examples of `30_encoding.md` R145, one a shape. -/
theorem test_assembly_r145 :
    assembly 0 .clc = some ("CLC", []) ∧ assembly 0 .aslAcc = some ("ASL", "A".toList) ∧
      assembly 0 (.ldaImm 0x42) = some ("LDA", "#$42".toList) ∧
      assembly 0 (.ldxZpY 0x10) = some ("LDX", "$10,Y".toList) ∧
      assembly 0 (.jmpAix 0x1234) = some ("JMP", "($1234,X)".toList) ∧
      assembly 0 (.ldaIndY 0x10) = some ("LDA", "($10),Y".toList) ∧
      assembly 0x1002 (.beq 0x03) = some ("BEQ", "$1005".toList) ∧
      assembly 0x1003 (.bbr3 0x10 0x02) = some ("BBR3", "$10,$1005".toList) ∧ assembly 0 .unmapped42 = none := by decide

/-- `30_encoding.md` R146: the ends of the range of a branch. -/
theorem test_branch_offset_r146 :
    branchOffset 0x1002 0x1005 = some 0x03 ∧ branchOffset 0x1000 0x0F80 = some 0x80 ∧
      branchOffset 0x1000 0x107F = some 0x7F ∧ branchOffset 0x1000 0x1080 = none ∧ opcodeBit 0x3F = some 3 ∧
      opcodeBit 0xF7 = some 7 ∧ opcodeBit 0x38 = none := by decide

theorem witness_invariants_hold_at_a_state_that_steps :
    State.reset.memorySound = true ∧ State.reset.video.legal State.reset.cfg = true ∧ State.reset.bankLegal = true ∧
      goesOn (step State.reset) = true := by decide

theorem witness_ExecBudgetReachesItsGoal :
    costsBounded Params.default ∧ State.reset.cpu.wait = false ∧ (State.reset.setWait true).cpu.wait = true ∧
      State.reset.cfg.wellFormed = true ∧ Params.wellFormed { waitStepCycles := 0 } = false := by
  unfold costsBounded
  decide +kernel

/-- NOPs at $1000 under a cost table. -/
def nops (table : List Nat) : State :=
  { at1000 [0xEA, 0xEA, 0xEA, 0xEA] with
    cpu := { (at1000 []).cpu with cycles := 0, goal := 0 }
    cfg := { Params.default with baseCost := table } }

/-- `60_exceptions.md` R558: `exec(5)` runs three NOPs and leaves `GOAL` = 5 and `CYCLES` = 6. -/
theorem test_exec_budget_r558 :
    (match execBudgetWithin 3 5 (nops baseCostTable) with
      | .next t => some (t.cpu.pc, t.cpu.cycles, t.cpu.goal)
      | _ => none) = some (0x1003, 6, 5) := by decide

/-- A table that charges nothing for NOP: two steps do not end `exec(1)`. -/
theorem witness_exec_budget_of_a_free_opcode_is_unfinished :
    (nops []).cfg.wellFormed = true ∧ (nops []).cpu.wait = false ∧
      (match execBudgetWithin 2 1 (nops []) with
        | .refused .budgetUnfinished => true
        | _ => false) = true := by decide

theorem witness_ComposerAndLayerRegistersReadBack :
    let other : State := { State.reset with video := { State.reset.video with dcsel := true } }
    State.reset.video.dcsel = false ∧ other.video.dcsel = true ∧
      (memWrite 0x9F29 0x5A State.reset).video.composer = ⟨0x5A, 128, 128, 0, 0, 160, 0, 240⟩ ∧
      (memWrite 0x9F2C 0x5A State.reset).video.composer = ⟨0, 128, 128, 0x5A, 0, 160, 0, 240⟩ ∧
      (memWrite 0x9F29 0x5A other).video.composer = ⟨0, 128, 128, 0, 0x5A, 160, 0, 240⟩ ∧
      (memWrite 0x9F2C 0x5A other).video.composer = ⟨0, 128, 128, 0, 0, 160, 0, 0x5A⟩ ∧
      (memWrite 0x9F2D 0x5A other).video.layer0.config = 0x5A ∧ (memWrite 0x9F33 0x5A other).video.layer0.vscrollH = 0x5A ∧
      (memWrite 0x9F34 0x5A other).video.layer1.config = 0x5A ∧
      (memWrite 0x9F3A 0x5A other).video.layer1.vscrollH = 0x5A := by decide

theorem witness_VideoResetByStore : (0x7F : Byte).getLsbD 7 = false ∧ (0x80 : Byte).getLsbD 7 = true := by decide

theorem witness_LineInterruptAtItsLine :
    let v : Video := { State.powerOn.video with scanY := 10, irqLine := 479 }
    v.effLine Params.default = 0 ∧ testBit v.isr 1 = false ∧ 1 ≤ v.irqLine.toNat ∧ v.irqLine.toNat ≤ 479 := by
  decide

theorem witness_EndOfFrame :
    let v : Video := { State.powerOn.video with scanY := 524 }
    v.scanY + 1 = Params.default.scanHeight ∧ State.powerOn.video.scanY + 1 ≠ Params.default.scanHeight := by decide

theorem witness_CollisionsAreReportedAtTheEndOfTheScreen :
    let v : Video := { State.powerOn.video with scanY := 489, ien := 0x4, spriteCollisions := 0x10 }
    v.scanY + 1 ≠ Params.default.scanHeight ∧
      Video.effLine { v with scanY := v.scanY + 1 } Params.default = Params.default.screenHeight ∧
      v.ien.getLsbD 2 = true ∧ v.spriteCollisions ≠ 0 ∧ State.powerOn.video.ien.getLsbD 2 = false := by decide

/-- V-S6 on a screen of eight columns, with a budget. -/
def smallScreen (budget : Nat) : Params := { Params.default with screenWidth := 8, spriteBudget := budget }

/-- R443, R446: the 128 looks and twice eight pixels with a boundary each fourth pixel cost 148; at 147 the line ends. -/
theorem witness_sprite_line_costs :
    spritesCost (smallScreen 800) twoSprites 0 2 = 22 ∧ onLine twoSprites 0 0 = true ∧ onLine twoSprites 0 1 = true ∧
      onLine twoSprites 8 0 = false ∧ onLine twoSprites 0 2 = false ∧ pixelCost (smallScreen 800) twoSprites 0 0 = 2 ∧
      pixelCost (smallScreen 800) twoSprites 0 7 = 1 ∧ pixelCost (smallScreen 800) twoSprites 0 8 = 0 := by decide

/-- Both sprites draw on column 0, and with a budget of 12 the second one does not (R446, R447). -/
theorem witness_sprites_draw :
    draws (smallScreen 800) twoSprites 0 0 0 1 ∧ draws (smallScreen 800) twoSprites 0 1 0 1 ∧
      inMask twoSprites 0 4 = true ∧ inMask twoSprites 1 4 = true ∧
      draws (smallScreen 12) twoSprites 0 0 0 1 ∧ ¬draws (smallScreen 12) twoSprites 0 1 0 1 := by
  refine ⟨?_, ?_, ?_, ?_, ?_, ?_⟩
  · exact ⟨by decide, by decide, by decide, 0, by decide⟩
  · exact ⟨by decide, by decide, by decide, 0, by decide⟩
  · decide
  · decide
  · exact ⟨by decide, by decide, by decide, 0, by decide⟩
  · rintro ⟨_, _, _, k, hk, hx, _, hc⟩
    have h : spritesCost (smallScreen 12) twoSprites 0 1 + (smallScreen 12).spriteLookupCost = 12 := by decide
    have h2 : pixelsCost (smallScreen 12) twoSprites 1 1 = 2 := by decide
    have h0 : spriteX twoSprites 1 = 0 := by decide
    have hk0 : k = 0 := by
      simp only [column, h0] at hx
      omega
    subst hk0
    have hb : (smallScreen 12).spriteBudget = 12 := rfl
    rw [h, h2, hb] at hc
    omega

/-- `10_state.md` R70: in the reset state the pixels of the screen read black (log 7), and off it there is none. -/
theorem test_frame_buffer_at_reset :
    State.reset.video.pixel Params.default 0 0 = some ⟨0, 0, 0⟩ ∧
      State.reset.video.pixel Params.default 479 639 = some ⟨0, 0, 0⟩ ∧
      State.reset.video.pixel Params.default 480 0 = none ∧ State.reset.video.pixel Params.default 0 640 = none := by
  decide

theorem witness_VideoStepWritesOnlyItsOutput :
    let v : Video := State.reset.video
    0 < Params.default.scanWidth * Params.default.cpuFreq ∧
      Params.default.pixelFreqVga ≤ Params.default.scanWidth * Params.default.cpuFreq ∧
      Params.default.pixelFreqNtsc ≤ Params.default.scanWidth * Params.default.cpuFreq ∧
      v.scanXNum ≤ Params.default.scanWidth * Params.default.cpuFreq ∧ v.scanY < Params.default.scanHeight ∧
      (v.step Params.default).scanXNum = 25175 ∧ (v.step Params.default).scanY = 0 := by decide

/-- `51_renderer.md` R432: `scan_x` exactly at SCAN_WIDTH does not wrap, one unit above it does. -/
theorem witness_scan_x_wraps_strictly :
    let cfg : Params := { Params.default with cpuFreq := 1, scanWidth := 5, pixelFreqVga := 3 }
    (Video.step cfg { State.reset.video with scanXNum := 2 }).scanXNum = 5 ∧
      (Video.step cfg { State.reset.video with scanXNum := 2 }).scanY = 0 ∧
      (Video.step cfg { State.reset.video with scanXNum := 3 }).scanXNum = 1 ∧
      (Video.step cfg { State.reset.video with scanXNum := 3 }).scanY = 1 := by decide

/-- The video after reset with another `composer[0]`, first active column and last active line. -/
def framed (out hstart vstop : Byte) : Video :=
  { State.powerOn.video with
    composer := { State.powerOn.video.composer with video := out, hstart := hstart, vstop := vstop, border := 1 }
    vram := [(0x1FA03, 0x0F)] }

/-- R436, R437, R441, R472: off, border line, border column and active column of a small screen. -/
theorem witness_MixByDepth :
    ((framed 0 1 240).linePixels (smallScreen 800) 0)[0]? = some ⟨0, 0, 255⟩ ∧
      ((framed 1 1 0).linePixels (smallScreen 800) 0)[7]? = some ⟨255, 0, 0⟩ ∧
      ((framed 1 1 240).linePixels (smallScreen 800) 0)[3]? = some ⟨255, 0, 0⟩ ∧
      ((framed 1 1 240).linePixels (smallScreen 800) 0)[4]? = some ⟨0, 0, 0⟩ ∧
      Params.default.layerPixelFn = .reference ∧ overscan Params.default 42 240 = true ∧
      overscan Params.default 43 240 = false ∧ overscan Params.default 597 456 = false ∧
      overscan Params.default 597 457 = true := by decide

end Sys2Proof.Tests
end

/-! The BUS by address range (`20_memory.md`): what a read and a write do in each region, the stub devices of the I/O
page, and the routing of the I/O page to the external collaborators. -/

namespace Sys2Proof.Machine

open Sys2Proof.Config Sys2Proof.Claims

/-! ### The regions of memory (R100, R101) -/

theorem memRead_of_directRam {a : Word} (h : region a = .directRam) (s : State) :
    memRead a s = (s.bus.ram.read a.toNat, s) := by
  rw [memRead_of_not_io (by simp [h])]
  simp only [State.cell, h]

theorem memRead_of_bankedRam {a : Word} (h : region a = .bankedRam) (s : State) :
    memRead a s = (s.bus.bram.read (bramIndex s.cfg s.bus.ramBank a), s) := by
  rw [memRead_of_not_io (by simp [h])]
  simp only [State.cell, h]

theorem memRead_of_bankedRom {a : Word} (h : region a = .bankedRom) (s : State) :
    memRead a s = (s.bus.rom.read (romIndex s.cfg s.bus.romBank.toNat a), s) := by
  rw [memRead_of_not_io (by simp [h])]
  simp only [State.cell, h]

theorem memWrite_of_directRam {a : Word} (h : region a = .directRam) (v : Byte) (s : State) :
    memWrite a v s = { s with bus := { s.bus with ram := s.bus.ram.write a.toNat v } } := by
  simp only [memWrite, h]

theorem memWrite_of_bankedRam {a : Word} (h : region a = .bankedRam) (v : Byte) (s : State) :
    memWrite a v s =
      { s with bus := { s.bus with bram := s.bus.bram.write (bramIndex s.cfg s.bus.ramBank a) v } } := by
  simp only [memWrite, h]

theorem memWrite_of_bankedRom {a : Word} (h : region a = .bankedRom) (v : Byte) (s : State) :
    memWrite a v s = s := by
  simp only [memWrite, h]

theorem memWrite_of_io {a : Word} (h : region a = .io) (v : Byte) (s : State) :
    memWrite a v s = ioWrite (loByte a) v s := by
  simp only [memWrite, h]

theorem debugRead_of_io {a : Word} (h : region a = .io) (bank : Nat) (s : State) :
    debugRead a bank s = ioDebugRead (loByte a) s := by
  simp only [debugRead, h]

theorem ofNat_toNat_eq_loByte (a : Word) : BitVec.ofNat 8 a.toNat = loByte a := by
  apply BitVec.eq_of_toNat_eq
  rw [loByte_toNat, BitVec.toNat_ofNat]

/-- Settles O39: region by region. -/
theorem busReadByRegion : Obligations.BusReadByRegion := by
  unfold Obligations.BusReadByRegion
  intro a v s
  refine ⟨fun hhi => ?_, fun hlo hhi => ?_, fun hlo hhi => ?_, fun hlo => ?_⟩
  · have hr : region a = .directRam := region_directRam.mpr (by omega)
    refine ⟨memRead_of_directRam hr s, _, rfl, ?_, fun k => ?_⟩ <;> rw [memWrite_of_directRam hr]
    exact Memory.read_write _ _ _ _
  · rw [memRead_of_io (region_io.mpr ⟨hlo, by omega⟩), ofNat_toNat_eq_loByte]
  · have hr : region a = .bankedRam := region_bankedRam.mpr ⟨hlo, by omega⟩
    refine ⟨memRead_of_bankedRam hr s, _, rfl, ?_, fun k => ?_⟩ <;> rw [memWrite_of_bankedRam hr]
    exact Memory.read_write _ _ _ _
  · exact memRead_of_bankedRom (region_bankedRom.mpr hlo) s

/-! ### The stub devices and Null (R102, R103) -/

/-- The constant that a device without state reads as (R102); `none` for every other device. -/
def IoDevice.stubValue (d : IoDevice) : Option Byte :=
  match d with
  | .lcd => some 0x00#8
  | .rtc => some 0x00#8
  | .mouse => some 0xFF#8
  | .null => some 0x00#8
  | _ => none

/-- A device without state answers its constant, and neither a read nor a write changes anything. -/
theorem memRead_memWrite_of_stub {a : Word} {b : Byte} (h : region a = .io)
    (hb : (ioDevice (loByte a)).stubValue = some b) (v : Byte) (s : State) :
    memRead a s = (b, s) ∧ memWrite a v s = s := by
  rw [memRead_of_io h, memWrite_of_io h]
  cases hd : ioDevice (loByte a) <;> rw [hd] at hb
  case lcd | rtc | mouse | null => cases hb; simp only [ioRead, ioWrite, hd, and_self]
  all_goals cases hb

/-- The device of an address of the I/O page by its value (R97). -/
theorem ioDevice_loByte {a : Word} (h : region a = .io) :
    ioDevice (loByte a) =
      if a.toNat ≤ 0x9F1F then .audio else if a.toNat ≤ 0x9F3F then .video else if a.toNat ≤ 0x9F5F then .lcd
      else if a.toNat ≤ 0x9F6F then .via1 else if a.toNat ≤ 0x9F7F then .via2 else if a.toNat ≤ 0x9F9F then .rtc
      else if a.toNat ≤ 0x9FAF then .mouse else if a.toNat ≤ 0x9FBF then .emu else .null := by
  obtain ⟨hlo, hhi⟩ := region_io.mp h
  have hle (n : Nat) (hn : n < 0x100) : (loByte a).toNat ≤ n ↔ a.toNat ≤ 0x9F00 + n := by
    rw [loByte_toNat]
    omega
  simp (disch := omega) only [ioDevice, hle]

/-! ### Stores to ROM (R106) -/

/-- A store instruction whose write is ignored costs its base cycles and does nothing else. -/
theorem storingInstr_abs_of_bankedRom {a : Word} (h : region a = .bankedRom) (op : Nat) (v : Byte) (s : State) :
    storingInstr op (.abs a) v s = .next { s with cpu := { s.cpu with cycles := cyclesAfter s op 0 } } := by
  have hw : memWrite ((AddrMode.abs a).address s) v s = s := memWrite_of_bankedRom h v s
  rw [storingInstr, hw]
  simp only [AddrMode.cross, State.chargeOp, State.charge, modeCost, Bool.and_false, Bool.toNat_false]
  rfl

/-- Settles O40: the four stub ranges are one lemma about stub devices, and a store to ROM is a write that does
nothing. -/
theorem writesThatAreIgnored : Obligations.WritesThatAreIgnored := by
  unfold Obligations.WritesThatAreIgnored
  intro a v s
  refine ⟨fun hlo hhi => ?null, fun hlo hhi => ?lcd, fun hlo hhi => ?rtc, fun hlo hhi => ?mouse, fun hlo => ?rom⟩
  case rom =>
    have hr : region a = .bankedRom := region_bankedRom.mpr hlo
    exact ⟨congrArg Prod.fst (memRead_of_bankedRom hr s), memWrite_of_bankedRom hr v s,
      storingInstr_abs_of_bankedRom hr _ _ s, storingInstr_abs_of_bankedRom hr _ _ s,
      storingInstr_abs_of_bankedRom hr _ _ s, storingInstr_abs_of_bankedRom hr _ _ s⟩
  all_goals
    have hr : region a = .io := region_io.mpr (by omega)
    refine memRead_memWrite_of_stub hr ?_ v s
    rw [ioDevice_loByte hr]
    repeat rw [if_neg (by omega)]
  case null => rfl
  all_goals
    rw [if_pos (by omega)]
    rfl

/-! ### The routing of the I/O page to the external collaborators (R97, R102, R103, R118) -/

/-- The external device and register of a low byte of the I/O page, by the decoders of the model. -/
def extPort (lo : Byte) : Option (ExtDev × Nat) :=
  match ioDevice lo with
  | .audio => some (.audio, low5 lo)
  | .via1 => some (.via1, low4 lo)
  | .via2 => some (.via2, low4 lo)
  | .video =>
    match videoReg (low5 lo) with
    | .pcm k => some (.pcm, k)
    | .spi k => some (.spi, k)
    | _ => none
  | _ => none

/-- The decoders of the model agree with the address ranges of `routed`, low byte by low byte. -/
theorem routed_wordOf : ∀ lo : Byte, routed (wordOf 0x9F lo) = extPort lo := by decide

theorem eq_wordOf_of_io {a : Word} (h : region a = .io) : a = wordOf 0x9F (loByte a) := by
  obtain ⟨hlo, hhi⟩ := region_io.mp h
  apply BitVec.eq_of_toNat_eq
  rw [wordOf_toNat, loByte_toNat, show (0x9F : Byte).toNat = 0x9F from rfl]
  omega

theorem routed_of_io {a : Word} (h : region a = .io) : routed a = extPort (loByte a) :=
  (congrArg routed (eq_wordOf_of_io h)).trans (routed_wordOf (loByte a))

/-- Only addresses of the I/O page are routed to a device. -/
theorem region_of_routed {a : Word} {dev : ExtDev} {reg : Nat} (h : routed a = some (dev, reg)) : region a = .io := by
  rw [region_io]
  by_contra hn
  simp only [routed] at h
  repeat rw [if_neg (by omega)] at h
  cases h

/-- The four ways to an external device. -/
theorem extPort_eq_some {lo : Byte} {dev : ExtDev} {reg : Nat} (h : extPort lo = some (dev, reg)) :
    (ioDevice lo = .audio ∧ dev = .audio ∧ reg = low5 lo) ∨ (ioDevice lo = .via1 ∧ dev = .via1 ∧ reg = low4 lo) ∨
    (ioDevice lo = .via2 ∧ dev = .via2 ∧ reg = low4 lo) ∨
    (ioDevice lo = .video ∧
      (videoReg (low5 lo) = .pcm reg ∧ dev = .pcm ∨ videoReg (low5 lo) = .spi reg ∧ dev = .spi)) := by
  unfold extPort at h
  split at h
  case h_1 hd => cases h; exact .inl ⟨hd, rfl, rfl⟩
  case h_2 hd => cases h; exact .inr (.inl ⟨hd, rfl, rfl⟩)
  case h_3 hd => cases h; exact .inr (.inr (.inl ⟨hd, rfl, rfl⟩))
  case h_4 hd =>
    split at h
    case h_1 hv => cases h; exact .inr (.inr (.inr ⟨hd, .inl ⟨hv, rfl⟩⟩))
    case h_2 hv => cases h; exact .inr (.inr (.inr ⟨hd, .inr ⟨hv, rfl⟩⟩))
    case h_3 => cases h
  case h_5 => cases h

/-- A read, a write and a debug read of a routed address are those of its device. -/
theorem access_of_routed {a : Word} {dev : ExtDev} {reg : Nat} (h : routed a = some (dev, reg)) (v : Byte)
    (bank : Nat) (s : State) :
    memRead a s = extRead dev reg s ∧ memWrite a v s = extWrite dev reg v s ∧
      debugRead a bank s = extDebugRead dev reg s := by
  have hr := region_of_routed h
  rw [memRead_of_io hr, memWrite_of_io hr, debugRead_of_io hr]
  rw [routed_of_io hr] at h
  obtain ⟨hd, rfl, rfl⟩ | ⟨hd, rfl, rfl⟩ | ⟨hd, rfl, rfl⟩ | ⟨hd, ⟨hv, rfl⟩ | ⟨hv, rfl⟩⟩ := extPort_eq_some h
  case inl | inr.inl | inr.inr.inl => simp only [ioRead, ioWrite, ioDebugRead, hd, and_self]
  all_goals simp only [ioRead, ioWrite, ioDebugRead, videoRead, videoWrite, hd, hv, and_self]

/-- The low bytes of the two data ports. -/
theorem low_of_dataPort : ∀ (lo : Byte) (port : Bool), ioDevice lo = .video → videoReg (low5 lo) = .data port →
    lo = 0x23 ∨ lo = 0x24 := by decide

/-- A read that reaches no external device answers what the debug read answers, and only the data ports react to it. -/
theorem ioRead_of_not_extPort {lo : Byte} (h : extPort lo = none) (s : State) :
    (ioRead lo s).1 = ioDebugRead lo s ∧ (lo ≠ 0x23 → lo ≠ 0x24 → (ioRead lo s).2 = s) := by
  cases hd : ioDevice lo
  case audio | via1 | via2 => simp only [extPort, hd, reduceCtorEq] at h
  case lcd | rtc | mouse | emu | null => simp only [ioRead, ioDebugRead, hd, implies_true, and_self]
  case video =>
    cases hv : videoReg (low5 lo)
    case pcm | spi => simp only [extPort, hd, hv, reduceCtorEq] at h
    case data port =>
      refine ⟨by simp only [ioRead, ioDebugRead, videoRead, Video.regRead, hd, hv], fun h3 h4 => ?_⟩
      obtain e | e := low_of_dataPort lo port hd hv
      · exact absurd e h3
      · exact absurd e h4
    all_goals simp only [ioRead, ioDebugRead, videoRead, hd, hv, implies_true, and_self]

/-- Only the data ports and the external devices react to a read (R114). -/
theorem memRead_snd_of_not_routed {a : Word} (h : routed a = none) (h3 : a ≠ 0x9F23) (h4 : a ≠ 0x9F24) (s : State) :
    (memRead a s).2 = s := by
  by_cases hr : region a = .io
  · rw [routed_of_io hr] at h
    have low (b : Byte) (hne : a ≠ wordOf 0x9F b) : loByte a ≠ b := fun e => hne (e ▸ eq_wordOf_of_io hr)
    rw [memRead_of_io hr]
    exact (ioRead_of_not_extPort h s).2 (low 0x23 h3) (low 0x24 h4)
  · rw [memRead_of_not_io hr]

/-- Off the external devices the debug read with the selected bank answers what the read answers (R117). -/
theorem debugRead_of_not_routed {a : Word} (h : routed a = none) (s : State) :
    debugRead a (if a.toNat < 0xC000 then s.bus.ramBank else s.bus.romBank.toNat) s = (memRead a s).1 := by
  cases hr : region a
  case io =>
    rw [routed_of_io hr] at h
    rw [debugRead_of_io hr, memRead_of_io hr, (ioRead_of_not_extPort h s).1]
  case bankedRam =>
    rw [if_pos (region_bankedRam.mp hr).2, memRead_of_bankedRam hr]
    simp only [debugRead, hr]
  case bankedRom =>
    rw [if_neg (Nat.not_lt.mpr (region_bankedRom.mp hr)), memRead_of_bankedRom hr]
    simp only [debugRead, hr]
  case directRam =>
    rw [memRead_of_directRam hr]
    simp only [debugRead, hr]
  case null =>
    rw [memRead_of_not_io (by simp [hr])]
    simp only [debugRead, State.cell, hr]

/-- With the stubs on, every device but the two VIAs is a stub (R118). -/
theorem isStub_of_not_via {cfg : Params} {dev : ExtDev} (h : cfg.extStubs = true) (h1 : dev ≠ .via1)
    (h2 : dev ≠ .via2) : isStub cfg dev = true := by
  cases dev
  case via1 => exact absurd rfl h1
  case via2 => exact absurd rfl h2
  all_goals simp only [isStub, h, Bool.and_self]

theorem extRead_fst_of_stub {dev : ExtDev} {s : State} (h : isStub s.cfg dev = true) (reg : Nat) :
    (extRead dev reg s).1 = 0 := if_pos h

theorem extDebugRead_of_stub {dev : ExtDev} {s : State} (h : isStub s.cfg dev = true) (reg : Nat) :
    extDebugRead dev reg s = 0 := if_pos h

/-- Settles O42: a routed access is the device's own, and what is not routed reacts at the data ports only. -/
theorem onlyPortsAndDevicesReactToReads : Obligations.OnlyPortsAndDevicesReactToReads := by
  unfold Obligations.OnlyPortsAndDevicesReactToReads
  intro a v s
  refine ⟨fun h3 h4 hn => memRead_snd_of_not_routed hn h3 h4 s, fun dev reg hd => ?_,
    fun hn => debugRead_of_not_routed hn s⟩
  have access (bank : Nat) := access_of_routed hd v bank s
  obtain ⟨hread, hwrite, -⟩ := access 0
  refine ⟨congrArg Prod.snd hread, hwrite, fun hcfg h1 h2 => ?_⟩
  have hstub : isStub s.cfg dev = true := isStub_of_not_via hcfg h1 h2
  rw [hread]
  exact ⟨extRead_fst_of_stub hstub reg, fun bank => (access bank).2.2.trans (extDebugRead_of_stub hstub reg)⟩

end Sys2Proof.Machine

/-! The encoding of the instructions (`30_encoding.md`): which bytes the decoder refuses, and what every instruction
charges to `CYCLES`. -/

namespace Sys2Proof.Machine

open Sys2Proof.Config Sys2Proof.Claims

/-! ### Lengths (R142, R145, R147) -/

/-- Every mode of R145 has 1 to 3 bytes. -/
theorem Mode.bytes_pos_le_three (m : Mode) : 1 ≤ m.bytes ∧ m.bytes ≤ 3 := by
  cases m <;> decide

theorem modeTable_length : modeTable.length = 256 := by
  simp only [modeTable, List.flatten_cons, List.flatten_nil, List.length_append, List.length_cons, List.length_nil]

/-- Row by row, the modes of the opcode map have the written-out lengths. -/
theorem modeTable_map_bytes : modeTable.map Mode.bytes = lengths := by
  simp only [modeTable, lengths, List.flatten_cons, List.flatten_nil, List.append_nil, List.append_assoc,
    List.map_append, List.map_cons, List.map_nil, Mode.bytes]

theorem opcodeMode_bytes_eq_lengths (op : Byte) : (opcodeMode op).bytes = lengths.getD op.toNat 0 := by
  have hlt : op.toNat < modeTable.length := modeTable_length ▸ op.isLt
  rw [← modeTable_map_bytes, opcodeMode, List.getD_eq_getElem _ _ hlt,
    List.getD_eq_getElem _ _ (by rwa [List.length_map]), List.getElem_map]

theorem opcodeLength_pos_le_three (op : Byte) : 1 ≤ opcodeLength op ∧ opcodeLength op ≤ 3 := by
  rw [opcodeLength_eq_mode_bytes]
  exact Mode.bytes_pos_le_three _

/-- After an opcode byte the decoder asks for nothing but enough bytes. -/
theorem decode_cons_ok_iff (op : Byte) (tail : List Byte) :
    (∃ i rest, decode (op :: tail) = .ok i rest) ↔ opcodeLength op ≤ tail.length + 1 := by
  obtain ⟨hpos, hle⟩ := opcodeLength_pos_le_three op
  have hlen : opcodeLength op = 1 ∨ opcodeLength op = 2 ∨ opcodeLength op = 3 := by omega
  obtain h | h | h := hlen
  · simp [decode, h]
  · cases tail <;> simp [decode, h]
  · obtain _ | ⟨b, _ | ⟨c, tail⟩⟩ := tail <;> simp [decode, h]

/-- Settles O3: the decoder by the three lengths, the lengths by the modes of the opcode map. -/
theorem decoderRefusesOnlyShortBytes : Obligations.DecoderRefusesOnlyShortBytes := by
  unfold Obligations.DecoderRefusesOnlyShortBytes
  refine ⟨fun bytes => ?_, fun op => ?_, fun z r => ?_⟩
  · cases bytes with
    | nil => simp [decode]
    | cons op tail =>
      rw [decode_cons_ok_iff]
      constructor
      · intro h
        exact ⟨op, tail, rfl, h, opcodeLength_pos_le_three op⟩
      · rintro ⟨_, _, ⟨⟩, h, -⟩
        exact h
  · have h := opcodeMode_bytes_eq_lengths op
    exact ⟨(opcodeLength_eq_mode_bytes op).trans h, h⟩
  · and_intros <;> rfl

/-! ### The charge of an instruction (R165 to R167) -/

/-- The cost of a mode as the statements write it (R166). -/
theorem modeCost_eq (s : State) (op : Nat) (cross : Bool) :
    modeCost s.cfg op cross = baseCost s.cfg op + crossing s op cross := by
  cases cross <;> by_cases h : op ∈ s.cfg.penalty <;> simp [modeCost, paysPenalty, crossing, h]

theorem crossing_le_one (s : State) (op : Nat) (cross : Bool) : crossing s op cross ≤ 1 := by
  unfold crossing
  split <;> decide

theorem State.chargeOp_eq_charge (s : State) (op : Nat) (cross : Bool) :
    s.chargeOp op cross = s.charge (baseCost s.cfg op + crossing s op cross) := by
  rw [State.chargeOp, modeCost_eq]

/-- Two charges add up. -/
theorem State.charge_charge (s : State) (m n : Nat) : (s.charge m).charge n = s.charge (m + n) := by
  simp only [State.charge, BitVec.ofNat_add, BitVec.add_assoc]

theorem branchPenalty_le_two (next target : Word) (taken : Bool) : branchPenalty next target taken ≤ 2 := by
  have := Bool.toNat_le (pageCross next target)
  unfold branchPenalty
  split <;> omega

theorem decimalExtra_le (s : State) : decimalExtra s ≤ s.cfg.decimalExtraCycle := by
  unfold decimalExtra
  split <;> omega

/-- Nothing has been charged yet: the parameters and `CYCLES` are those of the first state. -/
def Uncharged (s u : State) : Prop := u.cfg = s.cfg ∧ u.cpu.cycles = s.cpu.cycles

theorem Uncharged.cfg {s u : State} (h : Uncharged s u) : u.cfg = s.cfg := h.1

theorem Uncharged.cycles {s u : State} (h : Uncharged s u) : u.cpu.cycles = s.cpu.cycles := h.2

theorem Uncharged.trans {s t u : State} (h : Uncharged s t) (h' : Uncharged t u) : Uncharged s u :=
  ⟨h'.cfg.trans h.cfg, h'.cycles.trans h.cycles⟩

theorem uncharged_memRead (a : Word) (s : State) : Uncharged s (memRead a s).2 :=
  ⟨memRead_cfg a s, by rw [memRead_cpu]⟩

theorem uncharged_memWrite (a : Word) (v : Byte) (s : State) : Uncharged s (memWrite a v s) :=
  ⟨memWrite_cfg a v s, by rw [memWrite_cpu]⟩

theorem uncharged_read16 (a : Word) (s : State) : Uncharged s (read16 a s).2 :=
  (uncharged_memRead a s).trans (uncharged_memRead (a + 1) _)

theorem uncharged_operand (o : Operand) (s : State) : Uncharged s (o.read s).2 := by
  cases o with
  | imm v => exact ⟨rfl, rfl⟩
  | mem m => exact uncharged_memRead _ s

theorem uncharged_push8 (v : Byte) (s : State) : Uncharged s (push8 v s) := by
  rw [push8_eq]
  exact ⟨rfl, rfl⟩

theorem uncharged_pull8 (s : State) : Uncharged s (pull8 s).2 := by
  rw [pull8_eq]
  exact ⟨rfl, rfl⟩

theorem uncharged_callSubroutine (a : Word) (s : State) : Uncharged s (callSubroutine a s) := by
  rw [callSubroutine, push16_eq]
  exact ⟨rfl, rfl⟩

theorem uncharged_returnSubroutine (s : State) : Uncharged s (returnSubroutine s) := by
  rw [returnSubroutine, pull16_eq]
  exact ⟨rfl, rfl⟩

/-- The entry of BRK charges nothing of its own (R276). -/
theorem uncharged_takeTrap_brk (s : State) : Uncharged s (takeTrap .brk s) := by
  rw [takeTrap_eq]
  exact ⟨rfl, rfl⟩

theorem uncharged_returnFromTrap (s : State) : Uncharged s (returnFromTrap s) := by
  rw [returnFromTrap_eq]
  exact ⟨rfl, rfl⟩

/-- The result is a next state in which `CYCLES` has grown by the base cost of the opcode and an extra of at most 2 and
the decimal extra. -/
def Charges (s : State) (op : Nat) (r : Result) : Prop :=
  ∃ t extra, r = .next t ∧ extra ≤ 2 + s.cfg.decimalExtraCycle ∧ t.cpu.cycles = cyclesAfter s op extra

theorem charges_charge {s u : State} {op extra : Nat} (h : Uncharged s u)
    (hx : extra ≤ 2 + s.cfg.decimalExtraCycle) : Charges s op (.next (u.charge (baseCost s.cfg op + extra))) :=
  ⟨_, extra, rfl, hx, congrArg (· + BitVec.ofNat 32 (baseCost s.cfg op + extra)) h.cycles⟩

theorem charges_chargeOp {s u : State} (h : Uncharged s u) (op : Nat) (cross : Bool) :
    Charges s op (.next (u.chargeOp op cross)) := by
  have := crossing_le_one u op cross
  rw [State.chargeOp_eq_charge, h.cfg]
  exact charges_charge h (by omega)

/-- With a charge of its own before that of the opcode, as the decimal extra of ADC and SBC. -/
theorem charges_charge_chargeOp {s u : State} {d : Nat} (h : Uncharged s u) (hd : d ≤ s.cfg.decimalExtraCycle)
    (op : Nat) (cross : Bool) : Charges s op (.next ((u.charge d).chargeOp op cross)) := by
  have := crossing_le_one (u.charge d) op cross
  rw [State.chargeOp_eq_charge, State.charge_charge, State.charge_cfg, h.cfg, Nat.add_left_comm]
  exact charges_charge h (by omega)

/-! ### The charge by the form of the instruction -/

theorem charges_reading (op : Nat) (o : Operand) (f : Byte → State → State) (s : State)
    (hf : ∀ v t, Uncharged t (f v t)) : Charges s op (readingInstr op o f s) :=
  charges_chargeOp ((uncharged_operand o s).trans (hf _ _)) op _

theorem charges_loadA (op : Nat) (o : Operand) (s : State) : Charges s op (loadA op o s) :=
  charges_reading op o _ s fun _ _ => ⟨rfl, rfl⟩

theorem charges_loadX (op : Nat) (o : Operand) (s : State) : Charges s op (loadX op o s) :=
  charges_reading op o _ s fun _ _ => ⟨rfl, rfl⟩

theorem charges_loadY (op : Nat) (o : Operand) (s : State) : Charges s op (loadY op o s) :=
  charges_reading op o _ s fun _ _ => ⟨rfl, rfl⟩

theorem charges_combine (f : Byte → Byte → Byte) (op : Nat) (o : Operand) (s : State) :
    Charges s op (combine f op o s) :=
  charges_reading op o _ s fun _ _ => ⟨rfl, rfl⟩

theorem charges_compareWith (reg : Byte) (op : Nat) (o : Operand) (s : State) :
    Charges s op (compareWith reg op o s) :=
  charges_reading op o _ s fun _ _ => ⟨rfl, rfl⟩

theorem charges_bitMemory (op : Nat) (m : AddrMode) (s : State) : Charges s op (bitMemoryInstr op m s) :=
  charges_reading op (.mem m) _ s fun _ _ => ⟨rfl, rfl⟩

theorem charges_bitImmediate (op : Nat) (v : Byte) (s : State) : Charges s op (bitImmediateInstr op v s) :=
  charges_reading op (.imm v) _ s fun _ _ => ⟨rfl, rfl⟩

theorem charges_storing (op : Nat) (m : AddrMode) (v : Byte) (s : State) : Charges s op (storingInstr op m v s) :=
  charges_chargeOp (uncharged_memWrite _ v s) op _

theorem charges_modifying (op : Nat) (o : Target) (f : Byte → Flags → FlaggedByte) (s : State) :
    Charges s op (modifyingInstr op o f s) := by
  cases o with
  | acc => exact charges_chargeOp ⟨rfl, rfl⟩ op _
  | mem m =>
    have h := (uncharged_memRead (m.address s) s).trans (uncharged_memWrite (m.address s)
      (f (memRead (m.address s) s).1 s.cpu.p).value _)
    refine charges_chargeOp ?_ op _
    exact h.trans ⟨rfl, rfl⟩

theorem charges_bitModify (op : Nat) (f : Byte → Byte) (z : Byte) (s : State) :
    Charges s op (bitModifyInstr op f z s) :=
  charges_modifying op (.mem (.zp z)) _ s

theorem charges_implied (op : Nat) {f : State → State} {s : State} (h : Uncharged s (f s)) :
    Charges s op (impliedInstr op f s) :=
  charges_chargeOp h op _

theorem charges_pullInto (op : Nat) {set : State → Byte → State} (hset : ∀ t v, Uncharged t (set t v)) (s : State) :
    Charges s op (impliedInstr op (pullInto set) s) := by
  refine charges_implied op ?_
  exact ((uncharged_pull8 s).trans (hset _ _)).trans ⟨rfl, rfl⟩

theorem charges_jumpIndirect (op : Nat) (p : Word) (s : State) : Charges s op (jumpIndirect op p s) := by
  refine charges_chargeOp ?_ op _
  exact (uncharged_read16 p s).trans ⟨rfl, rfl⟩

theorem charges_unmapped (op : Nat) (s : State) : Charges s op (unmappedInstr op s) := charges_implied op ⟨rfl, rfl⟩

theorem charges_accumulate (f : Byte → Byte → Flags → FlaggedByte) (op : Nat) (o : Operand) (s : State) :
    Charges s op (accumulate f op o s) := by
  refine charges_charge_chargeOp ?_ (decimalExtra_le s) op _
  exact (uncharged_operand o s).trans ⟨rfl, rfl⟩

theorem charges_branch (op : Nat) (r : Byte) (taken : Bool) {s u : State} (h : Uncharged s u) :
    Charges s op (branchInstr op r taken u) := by
  have hx := branchPenalty_le_two u.cpu.pc (branchTarget u.cpu.pc r) taken
  rw [branchInstr, h.cfg]
  refine charges_charge ?_ (by omega)
  cases taken
  · exact h
  · exact h.trans ⟨rfl, rfl⟩

theorem charges_bitBranch (op n : Nat) (whenSet : Bool) (z r : Byte) (s : State) :
    Charges s op (bitBranchInstr op n whenSet z r s) :=
  charges_branch op r _ (uncharged_memRead _ s)

/-! ### Every instruction -/

/-- The opcode byte of an instruction (R142). -/
def opcodeOf (i : Instr) : Byte := (encode i).headD 0

theorem opcodeOf_of_encode {i : Instr} {op : Byte} {rest : List Byte} (h : encode i = op :: rest) :
    opcodeOf i = op := by
  rw [opcodeOf, h, List.headD_cons]

/-- Every instruction charges its opcode, by its form; opcode $DB where it does not stop the CPU (R342). -/
theorem exec_charges (i : Instr) (s : State) (hdb : opcodeOf i = 0xDB → s.cfg.opcodeDb = .nop) :
    Charges s (opcodeOf i).toNat (exec i s) := by
  cases i <;> simp only [exec]
  case unmappedDB =>
    show Charges s 0xDB (execUnmappedDB s)
    rw [execUnmappedDB, hdb rfl]
    exact charges_unmapped 0xDB s
  case ldaIndX | ldaZp | ldaImm | ldaAbs | ldaIndY | ldaIzp | ldaZpX | ldaAbsY | ldaAbsX =>
    exact charges_loadA _ _ s
  case ldxImm | ldxZp | ldxAbs | ldxZpY | ldxAbsY => exact charges_loadX _ _ s
  case ldyImm | ldyZp | ldyAbs | ldyZpX | ldyAbsX => exact charges_loadY _ _ s
  case andIndX | andZp | andImm | andAbs | andIndY | andIzp | andZpX | andAbsY | andAbsX |
      oraIndX | oraZp | oraImm | oraAbs | oraIndY | oraIzp | oraZpX | oraAbsY | oraAbsX |
      eorIndX | eorZp | eorImm | eorAbs | eorIndY | eorIzp | eorZpX | eorAbsY | eorAbsX =>
    exact charges_combine _ _ _ s
  case cmpIndX | cmpZp | cmpImm | cmpAbs | cmpIndY | cmpIzp | cmpZpX | cmpAbsY | cmpAbsX |
      cpxImm | cpxZp | cpxAbs | cpyImm | cpyZp | cpyAbs =>
    exact charges_compareWith _ _ _ s
  case bitZp | bitAbs | bitZpX | bitAbsX => exact charges_bitMemory _ _ s
  case bitImm => exact charges_bitImmediate _ _ s
  case adcIndX | adcZp | adcImm | adcAbs | adcIndY | adcIzp | adcZpX | adcAbsY | adcAbsX |
      sbcIndX | sbcZp | sbcImm | sbcAbs | sbcIndY | sbcIzp | sbcZpX | sbcAbsY | sbcAbsX =>
    exact charges_accumulate _ _ _ s
  case staIndX | staZp | staAbs | staIndY | staIzp | staZpX | staAbsY | staAbsX | stxZp | stxAbs | stxZpY |
      styZp | styAbs | styZpX | stzZp | stzZpX | stzAbs | stzAbsX =>
    exact charges_storing _ _ _ s
  case incAcc | incZp | incAbs | incZpX | incAbsX | decAcc | decZp | decAbs | decZpX | decAbsX |
      aslAcc | aslZp | aslAbs | aslZpX | aslAbsX | lsrAcc | lsrZp | lsrAbs | lsrZpX | lsrAbsX |
      rolAcc | rolZp | rolAbs | rolZpX | rolAbsX | rorAcc | rorZp | rorAbs | rorZpX | rorAbsX |
      trbZp | trbAbs | tsbZp | tsbAbs =>
    exact charges_modifying _ _ _ s
  case rmb0 | rmb1 | rmb2 | rmb3 | rmb4 | rmb5 | rmb6 | rmb7 |
      smb0 | smb1 | smb2 | smb3 | smb4 | smb5 | smb6 | smb7 =>
    exact charges_bitModify _ _ _ s
  case bcc | bcs | beq | bne | bmi | bpl | bvc | bvs | bra =>
    exact charges_branch _ _ _ ⟨rfl, rfl⟩
  case bbr0 | bbr1 | bbr2 | bbr3 | bbr4 | bbr5 | bbr6 | bbr7 |
      bbs0 | bbs1 | bbs2 | bbs3 | bbs4 | bbs5 | bbs6 | bbs7 =>
    exact charges_bitBranch _ _ _ _ _ s
  case jmpInd | jmpAix => exact charges_jumpIndirect _ _ s
  case jsr a => exact charges_implied _ (uncharged_callSubroutine a s)
  case rts => exact charges_implied _ (uncharged_returnSubroutine s)
  case brk => exact charges_implied _ (uncharged_takeTrap_brk s)
  case rti => exact charges_implied _ (uncharged_returnFromTrap s)
  case pha | php | phx | phy => exact charges_implied _ (uncharged_push8 _ s)
  case pla | plx | ply =>
    refine charges_pullInto _ ?_ s
    exact fun _ _ => ⟨rfl, rfl⟩
  case plp => exact charges_implied _ ((uncharged_pull8 s).trans ⟨rfl, rfl⟩)
  case inx | iny | dex | dey | jmpAbs | clc | sec | cli | sei | cld | sed | clv | tax | tay | txa | tya | tsx | txs |
      nop | wai =>
    exact charges_implied _ ⟨rfl, rfl⟩
  -- the unmapped opcodes that are left
  all_goals exact charges_unmapped _ s

/-- The charge of an instruction that answers a next state. -/
theorem cycles_of_exec {i : Instr} {op : Byte} {rest : List Byte} {s t : State} (hi : encode i = op :: rest)
    (hdb : op = 0xDB → s.cfg.opcodeDb = .nop) (ht : exec i s = .next t) :
    ∃ extra, extra ≤ 2 + s.cfg.decimalExtraCycle ∧ t.cpu.cycles = cyclesAfter s op.toNat extra := by
  obtain rfl := opcodeOf_of_encode hi
  obtain ⟨u, extra, hu, hle, hcycles⟩ := exec_charges i s hdb
  cases hu.symm.trans ht
  exact ⟨extra, hle, hcycles⟩

/-- The tables of the default parameters are those written out in the statement. -/
theorem default_costs : ∀ op : Byte, Params.default.baseCost.getD op.toNat 0 = costs.getD op.toNat 0 ∧
    (op.toNat ∈ Params.default.penalty ↔ op.toNat ∈ paying) :=
  fun _ => ⟨rfl, Iff.rfl⟩

/-- Settles O8: by the form of each instruction; at the default parameters the decimal extra is 0. -/
theorem cyclesChargedByEveryInstruction : Obligations.CyclesChargedByEveryInstruction := by
  unfold Obligations.CyclesChargedByEveryInstruction
  refine ⟨fun i op rest s t hi hdb ht => cycles_of_exec hi hdb ht, default_costs, fun i op rest s t hi hcfg ht => ?_⟩
  have hdb : s.cfg.opcodeDb = .nop := by rw [hcfg]; rfl
  have hdec : s.cfg.decimalExtraCycle = 0 := by rw [hcfg]; rfl
  obtain ⟨extra, hle, hcycles⟩ := cycles_of_exec hi (fun _ => hdb) ht
  refine ⟨extra, by omega, ?_⟩
  rw [hcycles, cyclesAfter, hcfg, (default_costs op).1]

end Sys2Proof.Machine

/-! Instructions that work on registers and flags only: their whole effect as one change of the CPU, and INX, INY, DEX
and DEY (`41_arithmetic.md` R207 to R210). -/

namespace Sys2Proof.Machine

open Sys2Proof.Config Sys2Proof.Claims

/-! ### `SetNZ` (R15) -/

theorem testBit_seven_eq_msb (v : Byte) : testBit v 7 = v.msb := (BitVec.msb_eq_getLsbD_last v).symm

/-- `SetNZ` of the model is the flag update of the statements. -/
theorem Flags.setNZ_eq_nzOf (f : Flags) (v : Byte) : f.setNZ v = nzOf v f := by
  rw [Flags.setNZ, testBit_seven_eq_msb, nzOf]

theorem State.setNZ_eq (s : State) (v : Byte) :
    s.setNZ v = { s with cpu := { s.cpu with p := nzOf v s.cpu.p } } := by
  rw [State.setNZ, Flags.setNZ_eq_nzOf, State.setP]

/-- `X <- v; SetNZ(v)`. -/
theorem State.setX_setNZ_eq (s : State) (v : Byte) :
    (s.setX v).setNZ v = { s with cpu := { s.cpu with x := v, p := nzOf v s.cpu.p } } := State.setNZ_eq _ v

/-- `Y <- v; SetNZ(v)`. -/
theorem State.setY_setNZ_eq (s : State) (v : Byte) :
    (s.setY v).setNZ v = { s with cpu := { s.cpu with y := v, p := nzOf v s.cpu.p } } := State.setNZ_eq _ v

/-! ### The whole effect of an implied instruction -/

/-- An instruction without a page crossing charges its base cost. -/
theorem State.chargeOp_false (s : State) (op : Nat) :
    s.chargeOp op false = { s with cpu := { s.cpu with cycles := cyclesAfter s op 0 } } := by
  rw [State.chargeOp_eq_charge, crossing, if_neg (fun h => Bool.noConfusion h.2)]
  rfl

/-- An implied instruction whose work is a change `g` of the CPU that leaves `CYCLES` to the charge. -/
theorem changesCpu_of_implied {i : Instr} {op : Nat} {f : State → State} {g : Cpu → Cpu}
    (hi : ∀ s, exec i s = impliedInstr op f s) (hf : ∀ s, f s = { s with cpu := g s.cpu })
    (hg : ∀ c, (g c).cycles = c.cycles) : changesCpu i op g := by
  intro s
  rw [hi, impliedInstr, hf, State.chargeOp_false]
  simp only [cyclesAfter, hg]

/-! ### INX, INY, DEX and DEY (R207 to R210) -/

theorem inx_changesCpu : changesCpu .inx 0xE8 fun c => { c with x := c.x + 1, p := nzOf (c.x + 1) c.p } :=
  changesCpu_of_implied (fun _ => rfl) (fun s => s.setX_setNZ_eq _) fun _ => rfl

theorem iny_changesCpu : changesCpu .iny 0xC8 fun c => { c with y := c.y + 1, p := nzOf (c.y + 1) c.p } :=
  changesCpu_of_implied (fun _ => rfl) (fun s => s.setY_setNZ_eq _) fun _ => rfl

theorem dex_changesCpu : changesCpu .dex 0xCA fun c => { c with x := c.x - 1, p := nzOf (c.x - 1) c.p } :=
  changesCpu_of_implied (fun _ => rfl) (fun s => s.setX_setNZ_eq _) fun _ => rfl

theorem dey_changesCpu : changesCpu .dey 0x88 fun c => { c with y := c.y - 1, p := nzOf (c.y - 1) c.p } :=
  changesCpu_of_implied (fun _ => rfl) (fun s => s.setY_setNZ_eq _) fun _ => rfl

/-- Settles O18: the encodings and costs by the tables, the effects as changes of the CPU. -/
theorem indexIncrementDecrement : Obligations.IndexIncrementDecrement := by
  unfold Obligations.IndexIncrementDecrement
  refine ⟨?inx, inx_changesCpu, ?iny, iny_changesCpu, ?dex, dex_changesCpu, ?dey, dey_changesCpu⟩
  all_goals exact ⟨rfl, rfl, by decide⟩

end Sys2Proof.Machine

/-! The flag instructions and the register transfers (`48_flag_transfer.md`): each is one change of the CPU. -/

namespace Sys2Proof.Machine

open Sys2Proof.Config Sys2Proof.Claims

/-! ### The two shapes of change -/

/-- An implied instruction whose work is an update `g` of the status flags. -/
theorem changesCpu_of_setP {i : Instr} {op : Nat} {g : Flags → Flags}
    (hi : ∀ s, exec i s = impliedInstr op (fun s => s.setP (g s.cpu.p)) s) :
    changesCpu i op fun c => { c with p := g c.p } :=
  changesCpu_of_implied hi (fun _ => rfl) fun _ => rfl

/-- `A <- v; SetNZ(v)`. -/
theorem State.setA_setNZ_eq (s : State) (v : Byte) :
    (s.setA v).setNZ v = { s with cpu := { s.cpu with a := v, p := nzOf v s.cpu.p } } := State.setNZ_eq _ v

/-! ### CLC, SEC, CLI, SEI, CLD, SED and CLV (R310 to R317) -/

theorem clc_changesCpu : changesCpu .clc 0x18 fun c => { c with p := { c.p with c := false } } :=
  changesCpu_of_setP (g := fun p => { p with c := false }) fun _ => rfl

theorem sec_changesCpu : changesCpu .sec 0x38 fun c => { c with p := { c.p with c := true } } :=
  changesCpu_of_setP (g := fun p => { p with c := true }) fun _ => rfl

theorem cli_changesCpu : changesCpu .cli 0x58 fun c => { c with p := { c.p with i := false } } :=
  changesCpu_of_setP (g := fun p => { p with i := false }) fun _ => rfl

theorem sei_changesCpu : changesCpu .sei 0x78 fun c => { c with p := { c.p with i := true } } :=
  changesCpu_of_setP (g := fun p => { p with i := true }) fun _ => rfl

theorem cld_changesCpu : changesCpu .cld 0xD8 fun c => { c with p := { c.p with d := false } } :=
  changesCpu_of_setP (g := fun p => { p with d := false }) fun _ => rfl

theorem sed_changesCpu : changesCpu .sed 0xF8 fun c => { c with p := { c.p with d := true } } :=
  changesCpu_of_setP (g := fun p => { p with d := true }) fun _ => rfl

theorem clv_changesCpu : changesCpu .clv 0xB8 fun c => { c with p := { c.p with v := false } } :=
  changesCpu_of_setP (g := fun p => { p with v := false }) fun _ => rfl

/-- Settles O31: the encodings and costs by the tables, the effects as updates of the flags. -/
theorem flagInstructions : Obligations.FlagInstructions := by
  unfold Obligations.FlagInstructions
  refine ⟨?clc, clc_changesCpu, ?sec, sec_changesCpu, ?cli, cli_changesCpu, ?sei, sei_changesCpu,
    ?cld, cld_changesCpu, ?sed, sed_changesCpu, ?clv, clv_changesCpu⟩
  all_goals exact ⟨rfl, rfl, by decide⟩

/-! ### TAX, TAY, TXA, TYA, TSX and TXS (R318 to R323) -/

theorem tax_changesCpu : changesCpu .tax 0xAA fun c => { c with x := c.a, p := nzOf c.a c.p } :=
  changesCpu_of_implied (fun _ => rfl) (fun s => s.setX_setNZ_eq s.cpu.a) fun _ => rfl

theorem tay_changesCpu : changesCpu .tay 0xA8 fun c => { c with y := c.a, p := nzOf c.a c.p } :=
  changesCpu_of_implied (fun _ => rfl) (fun s => s.setY_setNZ_eq s.cpu.a) fun _ => rfl

theorem txa_changesCpu : changesCpu .txa 0x8A fun c => { c with a := c.x, p := nzOf c.x c.p } :=
  changesCpu_of_implied (fun _ => rfl) (fun s => s.setA_setNZ_eq s.cpu.x) fun _ => rfl

theorem tya_changesCpu : changesCpu .tya 0x98 fun c => { c with a := c.y, p := nzOf c.y c.p } :=
  changesCpu_of_implied (fun _ => rfl) (fun s => s.setA_setNZ_eq s.cpu.y) fun _ => rfl

theorem tsx_changesCpu : changesCpu .tsx 0xBA fun c => { c with x := c.sp, p := nzOf c.sp c.p } :=
  changesCpu_of_implied (fun _ => rfl) (fun s => s.setX_setNZ_eq s.cpu.sp) fun _ => rfl

/-- Alone among the transfers, TXS does not run `SetNZ`. -/
theorem txs_changesCpu : changesCpu .txs 0x9A fun c => { c with sp := c.x } :=
  changesCpu_of_implied (fun _ => rfl) (fun _ => rfl) fun _ => rfl

/-- Settles O32: the encodings and costs by the tables, the effects as changes of the CPU. -/
theorem registerTransfers : Obligations.RegisterTransfers := by
  unfold Obligations.RegisterTransfers
  refine ⟨?tax, tax_changesCpu, ?tay, tay_changesCpu, ?txa, txa_changesCpu, ?tya, tya_changesCpu,
    ?tsx, tsx_changesCpu, ?txs, txs_changesCpu⟩
  all_goals exact ⟨rfl, rfl, by decide⟩

end Sys2Proof.Machine

/-! NOP (`49_bit_system.md` R340), with what the step of a ready machine is: fetch and `exec`, before the video steps of
the schedule (`30_encoding.md` R140, `60_exceptions.md` R546). -/

namespace Sys2Proof.Machine

open Sys2Proof.Config Sys2Proof.Claims

/-! ### The step of a ready machine (R140, R546) -/

theorem State.ready_iff (s : State) :
    s.ready = true ↔ s.cfg.wellFormed = true ∧ s.script = [] ∧ s.pins.nmiRequests = 0 ∧
      (irqLevel s && !s.cpu.p.i) = false ∧ s.idle = false := by
  simp only [State.ready, Bool.and_eq_true, List.isEmpty_iff, decide_eq_true_eq, Bool.not_eq_true', and_assoc]

theorem hostPhase_of_script_nil {s : State} (h : s.script = []) : hostPhase s = s := by
  simp only [hostPhase, h]

/-- With no NMI request and no IRQ to take the poll does nothing. -/
theorem poll_of_no_request {s : State} (hnmi : s.pins.nmiRequests = 0)
    (hirq : (irqLevel s && !s.cpu.p.i) = false) : poll s = s := by
  rw [poll, if_neg (by omega), if_neg (Bool.eq_false_iff.mp hirq)]

/-- A CPU that neither waits nor is stopped fetches an instruction and runs it (R140). -/
theorem cpuStepWith_of_not_idle {s : State} (h : s.idle = false) (run : Instr → State → Result) :
    cpuStepWith run s = run (fetchInstr s).1 (fetchInstr s).2 :=
  if_neg (Bool.eq_false_iff.mp h)

theorem cpuTickWith_of_ready {s : State} (h : s.ready = true) (run : Instr → State → Result) :
    cpuTickWith run s = run (fetchInstr s).1 (fetchInstr s).2 := by
  obtain ⟨-, -, hnmi, hirq, hidle⟩ := s.ready_iff.mp h
  rw [cpuTickWith, poll_of_no_request hnmi hirq, cpuStepWith_of_not_idle hidle]

theorem step_of_ready {s : State} (h : s.ready = true) : step s = tickWith exec s := by
  obtain ⟨hcfg, hscript, -⟩ := s.ready_iff.mp h
  rw [step, stepWith, if_pos hcfg, hostPhase_of_script_nil hscript]

/-- Under the CPU schedule the step of a ready machine is `exec` after the fetch, with no video step. -/
theorem step_of_ready_cpuTick {s : State} (h : s.ready = true) (hsched : s.cfg.schedule = .cpuTick) :
    step s = exec (fetchInstr s).1 (fetchInstr s).2 := by
  rw [step_of_ready h, ← cpuTickWith_of_ready h exec]
  simp only [tickWith, hsched]

/-- The fetch of a one-byte instruction outside the I/O page moves `PC` and `ICOUNT` and nothing else. -/
theorem fetchInstr_of_oneByte {s : State} {op : Byte} (hr : region s.cpu.pc ≠ .io) (hop : s.cell s.cpu.pc = op)
    (hlen : opcodeLength op = 1) :
    fetchInstr s =
      (decodeOp op 0 0, { s with cpu := { s.cpu with pc := s.cpu.pc + 1, icount := s.cpu.icount + 1 } }) := by
  simp only [fetchInstr, fetch8_of_not_io hr, hop, fetchOperands, if_pos hlen]
  rfl

/-! ### NOP (R340) -/

theorem nop_oneByte : oneByte .nop 0xEA 2 := ⟨rfl, rfl, by decide⟩

theorem nop_changesCpu : changesCpu .nop 0xEA fun c => c :=
  changesCpu_of_implied (fun _ => rfl) (fun _ => rfl) fun _ => rfl

theorem fetchInstr_of_nop {s : State} (hr : region s.cpu.pc ≠ .io) (hop : s.cell s.cpu.pc = 0xEA) :
    fetchInstr s =
      (.nop, { s with cpu := { s.cpu with pc := s.cpu.pc + 1, icount := s.cpu.icount + 1 } }) :=
  fetchInstr_of_oneByte hr hop rfl

/-- Settles O35: the step is the fetch of one byte, then `exec` of NOP, which is the charge alone. -/
theorem noOperation : Obligations.NoOperation := by
  unfold Obligations.NoOperation
  refine ⟨nop_oneByte, nop_changesCpu, fun s hready hsched hr hop => ?_⟩
  rw [step_of_ready_cpuTick hready hsched, fetchInstr_of_nop hr hop, nop_changesCpu]
  rfl

end Sys2Proof.Machine

/-! The video registers (`50_video_registers.md`): the access to a register of the CORE at its address, the interrupt
registers IEN, ISR and IRQLINE, and CTRL with the video reset. -/

namespace Sys2Proof.Machine

open Sys2Proof.Config Sys2Proof.Claims

/-! ### The access to a register of the CORE (R361, R362) -/

/-- The registers that VIDEO holds itself, other than the data ports. -/
def VideoReg.isPlain (r : VideoReg) : Bool :=
  match r with
  | .data _ => false
  | .pcm _ => false
  | .spi _ => false
  | _ => true

theorem videoRead_of_isPlain {reg : Nat} (h : (videoReg reg).isPlain = true) (s : State) :
    videoRead reg s = (s.video.regRead s.cfg s.pins.pcmFifoLow (videoReg reg), s) := by
  cases hr : videoReg reg <;> rw [hr] at h
  case data | pcm | spi => cases h
  all_goals simp only [videoRead, hr]

theorem videoWrite_of_isPlain {reg : Nat} (h : (videoReg reg).isPlain = true) (v : Byte) (s : State) :
    videoWrite reg v s = { s with video := s.video.regWrite s.cfg (videoReg reg) v } := by
  cases hr : videoReg reg <;> rw [hr] at h
  case data | pcm | spi => cases h
  all_goals simp only [videoWrite, hr]

/-- The address `a` selects the register `r`, which VIDEO holds itself and which is no data port (R97, R360). -/
def SelectsPlain (a : Word) (r : VideoReg) : Prop :=
  region a = .io ∧ ioDevice (loByte a) = .video ∧ videoReg (low5 (loByte a)) = r ∧ r.isPlain = true

/-- A read answers the register and changes nothing (R361). -/
theorem memRead_of_selectsPlain {a : Word} {r : VideoReg} (h : SelectsPlain a r) (s : State) :
    memRead a s = (s.video.regRead s.cfg s.pins.pcmFifoLow r, s) := by
  obtain ⟨hio, hdev, rfl, hplain⟩ := h
  rw [memRead_of_io hio, ← videoRead_of_isPlain hplain]
  simp only [ioRead, hdev]

/-- A write changes VIDEO only, as the register file says (R362). -/
theorem memWrite_of_selectsPlain {a : Word} {r : VideoReg} (h : SelectsPlain a r) (v : Byte) (s : State) :
    memWrite a v s = { s with video := s.video.regWrite s.cfg r v } := by
  obtain ⟨hio, hdev, rfl, hplain⟩ := h
  rw [memWrite_of_io hio, ← videoWrite_of_isPlain hplain]
  simp only [ioWrite, hdev]

/-- A read right after a write shows the register of the new video state. -/
theorem memRead_memWrite_of_selectsPlain {a : Word} {r : VideoReg} (h : SelectsPlain a r) (v : Byte) (s : State) :
    (memRead a (memWrite a v s)).1 = (s.video.regWrite s.cfg r v).regRead s.cfg s.pins.pcmFifoLow r := by
  rw [memRead_of_selectsPlain h, memWrite_of_selectsPlain h]

theorem selectsPlain_ctrl : SelectsPlain 0x9F25 .ctrl := by and_intros <;> decide

theorem selectsPlain_ien : SelectsPlain 0x9F26 .ien := by and_intros <;> decide

theorem selectsPlain_isr : SelectsPlain 0x9F27 .isr := by and_intros <;> decide

theorem selectsPlain_irqLineL : SelectsPlain 0x9F28 .irqLineL := by and_intros <;> decide

/-! ### Concatenations of bit fields as numbers (R13) -/

theorem append_toNat_eq {m n : Nat} (x : BitVec m) (y : BitVec n) : (x ++ y).toNat = 2 ^ n * x.toNat + y.toNat := by
  rw [BitVec.toNat_append, Nat.shiftLeft_eq, Nat.mul_comm, ← Nat.two_pow_add_eq_or_of_lt y.isLt]

/-- The field of `len` bits from bit `start` on. -/
theorem extractLsb'_toNat_eq {n : Nat} (x : BitVec n) (start len : Nat) :
    (x.extractLsb' start len).toNat = x.toNat / 2 ^ start % 2 ^ len := by
  rw [BitVec.extractLsb'_toNat, Nat.shiftRight_eq_div_pow]

/-! ### ISR (R382) -/

theorem isrRead_getLsbD (v : Video) (pcmFifoLow : Bool) {k : Nat} (hk : k < 8) :
    (v.isrRead pcmFifoLow).getLsbD k = if k = 3 then pcmFifoLow else v.isr.getLsbD k := by
  have hkeep : ∀ j < 8, (0xF7#8).getLsbD j = !decide (j = 3) := by decide
  have hpcm : ∀ p : Bool, ∀ j < 8, (if p then 0x08#8 else 0x00#8).getLsbD j = (p && decide (j = 3)) := by decide
  rw [Video.isrRead, BitVec.getLsbD_or, BitVec.getLsbD_and, hkeep k hk, hpcm pcmFifoLow k hk]
  by_cases h : k = 3 <;> simp [h]

/-- Writing ISR clears the bits that are 1. -/
theorem regWrite_isr_eq (v : Video) (cfg : Params) (b : Byte) :
    v.regWrite cfg .isr b = { v with isr := v.isr &&& ~~~b } :=
  congrArg (fun m => { v with isr := v.isr &&& m }) (BitVec.xor_allOnes (x := b))

/-! ### IEN and IRQLINE (R381, R383) -/

theorem regWrite_ien_eq (v : Video) (cfg : Params) (b : Byte) :
    v.regWrite cfg .ien b = { v with
      ien := BitVec.ofNat 4 b.toNat
      irqLine := BitVec.ofNat 9 (256 * (b.toNat / 128) + v.irqLine.toNat % 256) } := by
  have hb := b.isLt
  have hien : b.extractLsb' 0 4 = BitVec.ofNat 4 b.toNat := by
    apply BitVec.eq_of_toNat_eq
    rw [extractLsb'_toNat_eq, BitVec.toNat_ofNat]
    omega
  have hline : b.extractLsb' 7 1 ++ v.irqLine.extractLsb' 0 8 =
      BitVec.ofNat 9 (256 * (b.toNat / 128) + v.irqLine.toNat % 256) := by
    apply BitVec.eq_of_toNat_eq
    rw [append_toNat_eq, extractLsb'_toNat_eq, extractLsb'_toNat_eq, BitVec.toNat_ofNat]
    omega
  rw [Video.regWrite, hien, hline]

theorem regWrite_irqLineL_eq (v : Video) (cfg : Params) (b : Byte) :
    v.regWrite cfg .irqLineL b =
      { v with irqLine := BitVec.ofNat 9 (256 * (v.irqLine.toNat / 256) + b.toNat) } := by
  have hl := v.irqLine.isLt
  have hb := b.isLt
  have hline : v.irqLine.extractLsb' 8 1 ++ b = BitVec.ofNat 9 (256 * (v.irqLine.toNat / 256) + b.toNat) := by
    apply BitVec.eq_of_toNat_eq
    rw [append_toNat_eq, extractLsb'_toNat_eq, BitVec.toNat_ofNat]
    omega
  rw [Video.regWrite, hline]

theorem regRead_ien_toNat (v : Video) (cfg : Params) (p : Bool) :
    (v.regRead cfg p .ien).toNat = 128 * (v.irqLine.toNat / 256) + v.ien.toNat := by
  have hl := v.irqLine.isLt
  have hz : (0#3).toNat = 0 := rfl
  rw [Video.regRead, append_toNat_eq, append_toNat_eq, extractLsb'_toNat_eq, hz]
  omega

theorem regRead_irqLineL_toNat (v : Video) (cfg : Params) (p : Bool) :
    (v.regRead cfg p .irqLineL).toNat = v.irqLine.toNat % 256 := by
  rw [Video.regRead, extractLsb'_toNat_eq]
  omega

/-- IEN reads back but for its bits 6 to 4, which hold nothing. -/
theorem regRead_regWrite_ien (v : Video) (cfg : Params) (p : Bool) (b : Byte) :
    (v.regWrite cfg .ien b).regRead cfg p .ien = b &&& 0x8F := by
  have fields : ∀ b : Byte, b.extractLsb' 7 1 ++ 0#3 ++ b.extractLsb' 0 4 = b &&& 0x8F := by decide
  rw [← fields b, Video.regRead, Video.regWrite, BitVec.extractLsb'_append_eq_left]

theorem regRead_regWrite_irqLineL (v : Video) (cfg : Params) (p : Bool) (b : Byte) :
    (v.regWrite cfg .irqLineL b).regRead cfg p .irqLineL = b := by
  rw [Video.regRead, Video.regWrite, BitVec.extractLsb'_append_eq_right]

/-- Settles O53: each address selects one register, and each register is read and written by its own fields. -/
theorem statusAndEnableRegisters : Obligations.StatusAndEnableRegisters := by
  unfold Obligations.StatusAndEnableRegisters
  intro v s
  have hien := memRead_of_selectsPlain selectsPlain_ien s
  have hisr := memRead_of_selectsPlain selectsPlain_isr s
  have hline := memRead_of_selectsPlain selectsPlain_irqLineL s
  refine ⟨?writeIsr, ?readIsr, ?writeIen, ?writeLine, ?readIen, ?readLine, ?backIen, ?backLine,
    congrArg Prod.snd hien, congrArg Prod.snd hisr, congrArg Prod.snd hline⟩
  case writeIsr => rw [memWrite_of_selectsPlain selectsPlain_isr, regWrite_isr_eq]
  case writeIen => rw [memWrite_of_selectsPlain selectsPlain_ien, regWrite_ien_eq]
  case writeLine => rw [memWrite_of_selectsPlain selectsPlain_irqLineL, regWrite_irqLineL_eq]
  case readIsr =>
    intro k hk
    rw [hisr]
    exact isrRead_getLsbD _ _ hk
  case readIen => rw [hien, regRead_ien_toNat]
  case readLine => rw [hline, regRead_irqLineL_toNat]
  case backIen => rw [memRead_memWrite_of_selectsPlain selectsPlain_ien, regRead_regWrite_ien]
  case backLine => rw [memRead_memWrite_of_selectsPlain selectsPlain_irqLineL, regRead_regWrite_irqLineL]

/-! ### The video memory after a video reset (`10_state.md` R75) -/

theorem read_writeAll_of_getElem? {bytes : List Byte} {i : Nat} {b : Byte} (h : bytes[i]? = some b) (m : Memory)
    (a : Nat) : (m.writeAll a bytes).read (a + i) = b := by
  obtain ⟨hi, rfl⟩ := List.getElem?_eq_some_iff.mp h
  exact m.read_writeAll_inside bytes a i hi

/-- In a concatenation of pieces of one length `n`, entry `n * k + i` is entry `i` of piece `k`. -/
theorem flatMap_getElem?_of_length {α β : Type} {f : α → List β} {n : Nat} (hf : ∀ x, (f x).length = n) {i : Nat}
    (hi : i < n) (l : List α) (k : Nat) : (l.flatMap f)[n * k + i]? = l[k]?.bind fun x => (f x)[i]? := by
  induction l generalizing k with
  | nil => rfl
  | cons x l ih =>
    rw [List.flatMap_cons]
    cases k with
    | zero =>
      rw [List.getElem?_append_left (by rw [hf]; omega)]
      simp only [Nat.mul_zero, Nat.zero_add, List.getElem?_cons_zero, Option.bind_some]
    | succ k =>
      rw [Nat.mul_succ, List.getElem?_append_right (by rw [hf]; omega), hf,
        show n * k + n + i - n = n * k + i by omega, ih, List.getElem?_cons_succ]

theorem defaultPaletteBytes_getElem? (cfg : Params) {k i : Nat} (hk : k < 256) (hi : i < 2) :
    (defaultPaletteBytes cfg)[2 * k + i]? = (paletteBytes (cfg.defaultPalette.getD k 0))[i]? := by
  rw [defaultPaletteBytes, flatMap_getElem?_of_length (n := 2) (fun _ => rfl) hi, List.getElem?_range hk,
    Option.bind_some]
  rfl

/-- Below the palette the video reset changes no byte. -/
theorem read_resetVram_of_lt (cfg : Params) (m : Memory) {k : Nat} (hk : k < 0x1FA00) :
    (resetVram cfg m).read k = m.read k := by
  rw [resetVram, Memory.read_writeAll_other _ _ (by omega), Memory.read_writeAll_other _ _ (by omega)]

/-- Byte `i` of palette entry `k` is that of `DEFAULT_PALETTE` (R410, R411). -/
theorem read_resetVram_palette (cfg : Params) (m : Memory) {k i : Nat} (hk : k < 256) (hi : i < 2) {b : Byte}
    (hb : (paletteBytes (cfg.defaultPalette.getD k 0))[i]? = some b) :
    (resetVram cfg m).read (0x1FA00 + (2 * k + i)) = b := by
  rw [resetVram, Memory.read_writeAll_other _ _ (by omega)]
  exact read_writeAll_of_getElem? ((defaultPaletteBytes_getElem? cfg hk hi).trans hb) m _

theorem read_resetVram_palette_low (cfg : Params) (m : Memory) {k : Nat} (hk : k < 256) :
    ((resetVram cfg m).read (0x1FA00 + 2 * k)).toNat = (cfg.defaultPalette.getD k 0).toNat % 256 := by
  have h := read_resetVram_palette cfg m hk (i := 0) (by omega) rfl
  rw [Nat.add_zero] at h
  rw [h, extractLsb'_toNat_eq]
  omega

theorem read_resetVram_palette_high (cfg : Params) (m : Memory) {k : Nat} (hk : k < 256) :
    ((resetVram cfg m).read (0x1FA00 + 2 * k + 1)).toNat = (cfg.defaultPalette.getD k 0).toNat / 256 := by
  have hlt := (cfg.defaultPalette.getD k 0).isLt
  have hz : (0#4).toNat = 0 := rfl
  rw [Nat.add_assoc, read_resetVram_palette cfg m hk (i := 1) (by omega) rfl, append_toNat_eq,
    extractLsb'_toNat_eq, hz]
  omega

/-- From the sprites on, video memory is 0 after a video reset. -/
theorem read_resetVram_sprites (cfg : Params) (m : Memory) {k : Nat} (hlo : 0x1FC00 ≤ k) (hhi : k < 0x20000) :
    (resetVram cfg m).read k = 0 := by
  obtain ⟨i, rfl⟩ := Nat.exists_eq_add_of_le hlo
  exact read_writeAll_of_getElem? (List.getElem?_replicate_of_lt (by omega)) _ _

/-! ### CTRL (R75, R380) -/

theorem regWrite_ctrl_of_bit_clear {b : Byte} (h : b.getLsbD 7 = false) (v : Video) (cfg : Params) :
    v.regWrite cfg .ctrl b = { v with dcsel := b.getLsbD 1, addrsel := b.getLsbD 0 } := by
  simp only [Video.regWrite, Video.writeCtrl, testBit, h, Bool.false_eq_true, if_false]

/-- With bit 7 set every register takes its reset value and both latches read byte 0, which the reset leaves alone. -/
theorem regWrite_ctrl_of_bit_set {b : Byte} (h : b.getLsbD 7 = true) (v : Video) (cfg : Params) :
    v.regWrite cfg .ctrl b =
      { vram := resetVram cfg v.vram, cur0 := ⟨0, 0, v.vram.read 0⟩, cur1 := ⟨0, 0, v.vram.read 0⟩
        addrsel := b.getLsbD 0, dcsel := b.getLsbD 1, ien := 0, irqLine := 0, isr := 0
        composer := ⟨0, 128, 128, 0, 0, 160, 0, 240⟩
        layer0 := ⟨0, 0, 0, 0, 0, 0, 0⟩, layer1 := ⟨0, 0, 0, 0, 0, 0, 0⟩
        scanXNum := 0, scanY := 0, frameCount := 0, spriteCollisions := 0, fb := v.fb } := by
  simp only [Video.regWrite, Video.writeCtrl, testBit, h, if_true, Video.reset,
    read_resetVram_of_lt cfg v.vram (show 0 < 0x1FA00 by decide)]
  rfl

theorem regRead_ctrl_toNat (v : Video) (cfg : Params) (p : Bool) :
    (v.regRead cfg p .ctrl).toNat = 2 * v.dcsel.toNat + v.addrsel.toNat := by
  have hz : (0#6).toNat = 0 := rfl
  rw [Video.regRead, append_toNat_eq, append_toNat_eq, BitVec.toNat_ofBool, BitVec.toNat_ofBool, hz]
  omega

/-- CTRL reads back its two stored bits; bit 7 is a trigger only. -/
theorem regRead_regWrite_ctrl (v : Video) (cfg : Params) (p : Bool) (b : Byte) :
    (v.regWrite cfg .ctrl b).regRead cfg p .ctrl = b &&& 3 := by
  have fields : ∀ b : Byte, 0#6 ++ BitVec.ofBool (testBit b 1) ++ BitVec.ofBool (testBit b 0) = b &&& 3 := by decide
  rw [← fields b, Video.regRead, Video.regWrite, Video.writeCtrl]

/-- Settles O55: the store by bit 7, with the whole reset and its video memory region by region; the read by the two
stored bits. -/
theorem videoResetByStore : Obligations.VideoResetByStore := by
  unfold Obligations.VideoResetByStore
  intro v s
  have hread := memRead_of_selectsPlain selectsPlain_ctrl s
  have hwrite := memWrite_of_selectsPlain selectsPlain_ctrl v s
  refine ⟨fun h7 => ?clear, fun h7 => ⟨_, rfl, ?set⟩, ?read, congrArg Prod.snd hread, ?back⟩
  case clear => rw [hwrite, regWrite_ctrl_of_bit_clear h7]
  case set =>
    rw [hwrite, regWrite_ctrl_of_bit_set h7]
    dsimp only
    exact ⟨rfl, fun k hk => read_resetVram_of_lt _ _ hk,
      fun k hk => ⟨read_resetVram_palette_low _ _ hk, read_resetVram_palette_high _ _ hk⟩,
      fun k hlo hhi => read_resetVram_sprites _ _ hlo hhi⟩
  case read => rw [hread, regRead_ctrl_toNat]
  case back => rw [memRead_memWrite_of_selectsPlain selectsPlain_ctrl, regRead_regWrite_ctrl]

end Sys2Proof.Machine

/-! The line step and the video step (`51_renderer.md` R430 to R434, R474, R480 to R483): a line step as one equation
about the whole of VIDEO, and the progress of `scan_x`, `scan_y` and the frame count over any number of video steps. -/

namespace Sys2Proof.Machine

open Sys2Proof.Config Sys2Proof.Claims

/-! ### The interrupt status after a line step (R480 to R483) -/

/-- `isr` after a line step: bit 0 at an enabled end of frame, bit 2 and the mask at a report of collisions, bit 1 at
the compare line. -/
def statusAfter (vsync reported compared : Bool) (isr mask : Byte) : Byte :=
  let r := if vsync then isr ||| 0x01#8 else isr
  let r := if reported then (r &&& 0x0F#8) ||| 0x04#8 ||| (mask &&& 0xF0#8) else r
  if compared then r ||| 0x02#8 else r

theorem getLsbD_or_if (set : Bool) (r m : Byte) (k : Nat) :
    (if set then r ||| m else r).getLsbD k = (r.getLsbD k || set && m.getLsbD k) := by
  cases set with
  | true => rw [if_pos rfl, BitVec.getLsbD_or, Bool.true_and]
  | false => rw [if_neg Bool.false_ne_true, Bool.false_and, Bool.or_false]

theorem getLsbD_report_low (reported : Bool) (r mask : Byte) {k : Nat} (hk : k < 4) :
    (if reported then (r &&& 0x0F#8) ||| 0x04#8 ||| (mask &&& 0xF0#8) else r).getLsbD k =
      (r.getLsbD k || reported && decide (k = 2)) := by
  have hbits : ∀ k < 4, (0x04#8).getLsbD k = decide (k = 2) ∧ (0x0F#8).getLsbD k = true ∧
      (0xF0#8).getLsbD k = false := by decide
  obtain ⟨hreport, hkeep, hmask⟩ := hbits k hk
  cases reported <;> simp [BitVec.getLsbD_or, BitVec.getLsbD_and, hreport, hkeep, hmask]

theorem getLsbD_report_high (reported : Bool) (r mask : Byte) {k : Nat} (hlo : 4 ≤ k) (hhi : k < 8) :
    (if reported then (r &&& 0x0F#8) ||| 0x04#8 ||| (mask &&& 0xF0#8) else r).getLsbD k =
      (if reported then mask else r).getLsbD k := by
  have hbits : ∀ k < 8, 4 ≤ k → (0x04#8).getLsbD k = false ∧ (0x0F#8).getLsbD k = false ∧
      (0xF0#8).getLsbD k = true := by decide
  obtain ⟨hreport, hkeep, hmask⟩ := hbits k hhi hlo
  cases reported <;> simp [BitVec.getLsbD_or, BitVec.getLsbD_and, hreport, hkeep, hmask]

/-- The low four bits are set one by one and never cleared. -/
theorem statusAfter_getLsbD_low (vsync reported compared : Bool) (isr mask : Byte) {k : Nat} (hk : k < 4) :
    (statusAfter vsync reported compared isr mask).getLsbD k =
      (isr.getLsbD k || vsync && decide (k = 0) || reported && decide (k = 2) || compared && decide (k = 1)) := by
  have hbits : ∀ k < 4, (0x01#8).getLsbD k = decide (k = 0) ∧ (0x02#8).getLsbD k = decide (k = 1) := by decide
  obtain ⟨hframe, hline⟩ := hbits k hk
  rw [statusAfter, getLsbD_or_if, getLsbD_report_low _ _ _ hk, getLsbD_or_if, hframe, hline]

/-- The high four bits are those of the mask at a report, else they stay. -/
theorem statusAfter_getLsbD_high (vsync reported compared : Bool) (isr mask : Byte) {k : Nat} (hlo : 4 ≤ k)
    (hhi : k < 8) :
    (statusAfter vsync reported compared isr mask).getLsbD k = (if reported then mask else isr).getLsbD k := by
  have hbits : ∀ k < 8, 4 ≤ k → (0x01#8).getLsbD k = false ∧ (0x02#8).getLsbD k = false := by decide
  obtain ⟨hframe, hline⟩ := hbits k hhi hlo
  rw [statusAfter, getLsbD_or_if, getLsbD_report_high _ _ _ hlo hhi, hline, Bool.and_false, Bool.or_false]
  cases reported with
  | true => rfl
  | false => simp only [Bool.false_eq_true, if_false, getLsbD_or_if, hframe, Bool.and_false, Bool.or_false]

/-- Bytes with the same bits 7 to 4 have the same high nibble. -/
theorem highNibble_eq_of_getLsbD {a b : Byte} (h : ∀ k, 4 ≤ k → k < 8 → a.getLsbD k = b.getLsbD k) :
    a.toNat / 16 = b.toNat / 16 := by
  apply Nat.eq_of_testBit_eq
  intro i
  rw [show (16 : Nat) = 2 ^ 4 from rfl, Nat.testBit_div_two_pow, Nat.testBit_div_two_pow, BitVec.testBit_toNat,
    BitVec.testBit_toNat]
  by_cases hi : i + 4 < 8
  · exact h _ (by omega) hi
  · rw [BitVec.getLsbD_of_ge _ _ (by omega), BitVec.getLsbD_of_ge _ _ (by omega)]

theorem statusAfter_highNibble (vsync reported compared : Bool) (isr mask : Byte) :
    (statusAfter vsync reported compared isr mask).toNat / 16 = (if reported then mask else isr).toNat / 16 :=
  highNibble_eq_of_getLsbD fun _ hlo hhi => statusAfter_getLsbD_high vsync reported compared isr mask hlo hhi

/-! ### The line step as one equation (R434) -/

/-- `scan_y` after a line step. -/
def Video.nextScanY (v : Video) (cfg : Params) : Nat := if v.scanY + 1 = cfg.scanHeight then 0 else v.scanY + 1

/-- The frame count after a line step. -/
def Video.nextFrameCount (v : Video) (cfg : Params) : Nat :=
  if v.scanY + 1 = cfg.scanHeight then v.frameCount + 1 else v.frameCount

/-- The effective line that a line step reaches. -/
def Video.nextLine (v : Video) (cfg : Params) : Int := effective cfg v (v.nextScanY cfg)

/-- A line step sets VSYNC (R482). -/
def Video.signalsFrame (v : Video) (cfg : Params) : Bool := decide (v.scanY + 1 = cfg.scanHeight) && v.ien.getLsbD 0

/-- A line step reports collisions (R481). -/
def Video.reportsCollisions (v : Video) (cfg : Params) : Bool :=
  decide (v.nextLine cfg = cfg.screenHeight ∧ v.ien.getLsbD 2 = true ∧ v.spriteCollisions ≠ 0)

/-- A line step reaches the compare line and may say so (R483). -/
def Video.signalsLine (v : Video) (cfg : Params) : Bool :=
  decide (v.nextLine cfg = v.irqLine.toNat ∧ (!cfg.rasterNeedsEnable || v.ien.getLsbD 1) = true)

theorem Video.signalsFrame_iff (v : Video) (cfg : Params) :
    v.signalsFrame cfg = true ↔ v.scanY + 1 = cfg.scanHeight ∧ v.ien.getLsbD 0 = true := by
  rw [Video.signalsFrame, Bool.and_eq_true, decide_eq_true_iff]

theorem Video.reportsCollisions_iff (v : Video) (cfg : Params) :
    v.reportsCollisions cfg = true ↔
      v.nextLine cfg = cfg.screenHeight ∧ v.ien.getLsbD 2 = true ∧ v.spriteCollisions ≠ 0 := by
  rw [Video.reportsCollisions, decide_eq_true_iff]

theorem Video.signalsLine_iff (v : Video) (cfg : Params) :
    v.signalsLine cfg = true ↔
      v.nextLine cfg = v.irqLine.toNat ∧ (cfg.rasterNeedsEnable = true → v.ien.getLsbD 1 = true) := by
  rw [Video.signalsLine, decide_eq_true_iff]
  cases cfg.rasterNeedsEnable <;> simp

theorem Video.endOfFrame_eq (cfg : Params) (v : Video) :
    Video.endOfFrame cfg { v with scanY := v.scanY + 1 } =
      { v with
        scanY := v.nextScanY cfg
        frameCount := v.nextFrameCount cfg
        isr := statusAfter (v.signalsFrame cfg) false false v.isr 0 } := by
  by_cases h : v.scanY + 1 = cfg.scanHeight <;>
    simp [Video.endOfFrame, Video.nextScanY, Video.nextFrameCount, Video.signalsFrame, statusAfter, h]

theorem Video.rasterCompare_eq (cfg : Params) (eff : Int) (v : Video) :
    v.rasterCompare cfg eff =
      { v with
        isr := if eff = v.irqLine.toNat ∧ (!cfg.rasterNeedsEnable || v.ien.getLsbD 1) = true then v.isr ||| 0x02#8
          else v.isr } := by
  unfold Video.rasterCompare
  split <;> rfl

/-- What a line shows does not depend on the line counter, the frame count or `isr`. -/
theorem Video.composeLine_of_counters (cfg : Params) (eff : Nat) (v : Video) (y n : Nat) (isr : Byte) :
    Video.composeLine cfg eff { v with scanY := y, frameCount := n, isr := isr } =
      { v with
        scanY := y, frameCount := n, isr := isr
        spriteCollisions := (v.composeLine cfg eff).spriteCollisions, fb := (v.composeLine cfg eff).fb } := rfl

/-- `LineStep()`: what every field of VIDEO is afterwards. -/
theorem Video.lineStep_eq (cfg : Params) (v : Video) :
    v.lineStep cfg =
      { v with
        scanY := v.nextScanY cfg
        frameCount := v.nextFrameCount cfg
        isr := statusAfter (v.signalsFrame cfg) (v.reportsCollisions cfg) (v.signalsLine cfg) v.isr v.spriteCollisions
        spriteCollisions :=
          if 0 ≤ v.nextLine cfg ∧ v.nextLine cfg < cfg.screenHeight then
            (v.composeLine cfg (v.nextLine cfg).toNat).spriteCollisions
          else if v.nextLine cfg = cfg.screenHeight then 0 else v.spriteCollisions
        fb :=
          if 0 ≤ v.nextLine cfg ∧ v.nextLine cfg < cfg.screenHeight then
            (v.composeLine cfg (v.nextLine cfg).toNat).fb
          else v.fb } := by
  have heff (isr : Byte) :
      Video.effLine { v with scanY := v.nextScanY cfg, frameCount := v.nextFrameCount cfg, isr := isr } cfg =
        v.nextLine cfg := rfl
  simp only [Video.lineStep, Video.endOfFrame_eq, heff, Video.composeLine_of_counters, Video.rasterCompare_eq]
  by_cases hshown : 0 ≤ v.nextLine cfg ∧ v.nextLine cfg < cfg.screenHeight
  · have hend : v.nextLine cfg ≠ cfg.screenHeight := by omega
    simp [hshown, hend, Video.reportsCollisions, Video.signalsLine, statusAfter]
  · by_cases hend : v.nextLine cfg = cfg.screenHeight
    · simp [hend, Video.endOfVisible, Video.reportsCollisions, Video.signalsLine, statusAfter]
    · simp only [if_neg hshown, if_neg hend]
      simp [hend, Video.reportsCollisions, Video.signalsLine, statusAfter]

theorem Video.lineStep_isr (cfg : Params) (v : Video) :
    (v.lineStep cfg).isr =
      statusAfter (v.signalsFrame cfg) (v.reportsCollisions cfg) (v.signalsLine cfg) v.isr v.spriteCollisions := by
  rw [Video.lineStep_eq]

theorem Video.lineStep_getLsbD_isr (cfg : Params) (v : Video) {k : Nat} (hk : k < 4) :
    (v.lineStep cfg).isr.getLsbD k =
      (v.isr.getLsbD k || v.signalsFrame cfg && decide (k = 0) || v.reportsCollisions cfg && decide (k = 2) ||
        v.signalsLine cfg && decide (k = 1)) := by
  rw [Video.lineStep_isr, statusAfter_getLsbD_low _ _ _ _ _ hk]

theorem Video.lineStep_highNibble_isr (cfg : Params) (v : Video) :
    (v.lineStep cfg).isr.toNat / 16 = (if v.reportsCollisions cfg then v.spriteCollisions else v.isr).toNat / 16 := by
  rw [Video.lineStep_isr, statusAfter_highNibble]

/-- Settles O57: the counters by the equation of the line step, bit 0 by the bits of the status. -/
theorem endOfFrame : Obligations.EndOfFrame := by
  unfold Obligations.EndOfFrame
  intro cfg v
  have hbit : testBit (v.lineStep cfg).isr 0 = (testBit v.isr 0 || v.signalsFrame cfg) := by
    rw [testBit, testBit, v.lineStep_getLsbD_isr cfg (by omega)]
    simp
  have hy : (v.lineStep cfg).scanY = v.nextScanY cfg := by rw [Video.lineStep_eq]
  have hn : (v.lineStep cfg).frameCount = v.nextFrameCount cfg := by rw [Video.lineStep_eq]
  rw [hbit, hy, hn]
  refine ⟨fun h => ⟨if_pos h, if_pos h, ?_⟩, fun h => ⟨if_neg h, if_neg h, ?_⟩⟩
  · simp [Video.signalsFrame, h, Bool.or_comm]
  · simp [Video.signalsFrame, h]

/-! ### The video step (R431, R432) -/

/-- `w` differs from `v` at most in what VIDEO outputs and counts: the raster position, the frame count, `isr`, the
collision latch and the frame buffer. -/
def Video.SameRegisters (v w : Video) : Prop :=
  ∃ x y n isr mask fb, w = { v with
    scanXNum := x, scanY := y, frameCount := n, isr := isr, spriteCollisions := mask, fb := fb }

theorem Video.SameRegisters.refl (v : Video) : v.SameRegisters v := ⟨_, _, _, _, _, _, rfl⟩

theorem Video.SameRegisters.trans {u v w : Video} (h : u.SameRegisters v) (h' : v.SameRegisters w) :
    u.SameRegisters w := by
  obtain ⟨x, y, n, isr, mask, fb, rfl⟩ := h
  obtain ⟨x', y', n', isr', mask', fb', rfl⟩ := h'
  exact ⟨x', y', n', isr', mask', fb', rfl⟩

theorem Video.SameRegisters.composer {v w : Video} (h : v.SameRegisters w) : w.composer = v.composer := by
  obtain ⟨x, y, n, isr, mask, fb, rfl⟩ := h
  rfl

theorem Video.lineStep_sameRegisters (cfg : Params) (v : Video) : v.SameRegisters (v.lineStep cfg) := by
  rw [Video.lineStep_eq]
  exact ⟨_, _, _, _, _, _, rfl⟩

/-- The length of a line, in the unit of `scanXNum`. -/
def lineWidth (cfg : Params) : Nat := cfg.scanWidth * cfg.cpuFreq

/-- A video step that does not wrap moves `scan_x` only. -/
theorem Video.step_of_le {cfg : Params} {v : Video} (h : v.scanXNum + v.pixelFreq cfg ≤ lineWidth cfg) :
    v.step cfg = { v with scanXNum := v.scanXNum + v.pixelFreq cfg } :=
  if_neg (Nat.not_lt.mpr h)

/-- A video step that wraps is the line step at the reduced `scan_x`. -/
theorem Video.step_of_lt {cfg : Params} {v : Video} (h : lineWidth cfg < v.scanXNum + v.pixelFreq cfg) :
    v.step cfg = Video.lineStep cfg { v with scanXNum := v.scanXNum + v.pixelFreq cfg - lineWidth cfg } :=
  if_pos h

theorem Video.step_sameRegisters (cfg : Params) (v : Video) : v.SameRegisters (v.step cfg) := by
  by_cases h : v.scanXNum + v.pixelFreq cfg ≤ lineWidth cfg
  · rw [Video.step_of_le h]
    exact ⟨_, _, _, _, _, _, rfl⟩
  · rw [Video.step_of_lt (Nat.lt_of_not_le h)]
    exact Video.SameRegisters.trans ⟨_, _, _, _, _, _, rfl⟩ (Video.lineStep_sameRegisters cfg _)

theorem Video.steps_sameRegisters (cfg : Params) (n : Nat) (v : Video) : v.SameRegisters (v.steps cfg n) := by
  induction n generalizing v with
  | zero => exact .refl v
  | succ n ih => exact (v.step_sameRegisters cfg).trans (ih (v.step cfg))

/-- The last of `n + 1` video steps comes after the first `n`. -/
theorem Video.steps_succ (cfg : Params) (n : Nat) (v : Video) : v.steps cfg (n + 1) = (v.steps cfg n).step cfg := by
  induction n generalizing v with
  | zero => rfl
  | succ n ih => exact ih (v.step cfg)

/-! ### Progress over any number of video steps -/

/-- The number of lines that the frame count and `scan_y` stand for. -/
def Video.linesCounted (v : Video) (cfg : Params) : Nat := v.frameCount * cfg.scanHeight + v.scanY

/-- From `v` to `w` the raster went `dots` on and completed `lines` lines, and `scan_x` is positive after the first. -/
structure Video.Progress (cfg : Params) (v w : Video) (dots lines : Nat) : Prop where
  freq : w.pixelFreq cfg = v.pixelFreq cfg
  scanX_le : w.scanXNum ≤ lineWidth cfg
  scanX_pos : lines ≠ 0 → 0 < w.scanXNum
  scanX : w.scanXNum + lines * lineWidth cfg = v.scanXNum + dots
  counted : w.linesCounted cfg = v.linesCounted cfg + lines
  scanY_lt : w.scanY < cfg.scanHeight

/-- A line step counts one line. -/
theorem Video.lineStep_linesCounted {cfg : Params} {v : Video} (h : v.scanY < cfg.scanHeight) :
    (v.lineStep cfg).linesCounted cfg = v.linesCounted cfg + 1 ∧ (v.lineStep cfg).scanY < cfg.scanHeight := by
  rw [Video.lineStep_eq]
  simp only [Video.linesCounted, Video.nextScanY, Video.nextFrameCount]
  split
  · next hend =>
    rw [Nat.succ_mul]
    omega
  · omega

/-- One more video step completes one line more, or none. -/
theorem Video.Progress.step {cfg : Params} {v w : Video} {dots lines : Nat} (h : v.Progress cfg w dots lines)
    (hfreq : v.pixelFreq cfg ≤ lineWidth cfg) :
    ∃ lines', v.Progress cfg (w.step cfg) (dots + v.pixelFreq cfg) lines' := by
  have hsame : (w.step cfg).pixelFreq cfg = v.pixelFreq cfg := by
    rw [← h.freq, Video.pixelFreq, Video.ntsc, (w.step_sameRegisters cfg).composer, Video.pixelFreq, Video.ntsc]
  have hscanX := h.scanX
  have hle := h.scanX_le
  have hfreqW := h.freq
  by_cases hwrap : w.scanXNum + w.pixelFreq cfg ≤ lineWidth cfg
  · refine ⟨lines, hsame, ?_, ?_, ?_, ?_, ?_⟩ <;> rw [Video.step_of_le hwrap]
    · exact hwrap
    · exact fun hl => Nat.add_pos_left (h.scanX_pos hl) _
    · show w.scanXNum + w.pixelFreq cfg + lines * lineWidth cfg = _
      omega
    · exact h.counted
    · exact h.scanY_lt
  · have hlt := Nat.lt_of_not_le hwrap
    have hx : (w.step cfg).scanXNum = w.scanXNum + w.pixelFreq cfg - lineWidth cfg := by
      rw [Video.step_of_lt hlt, Video.lineStep_eq]
    obtain ⟨hcount, hy⟩ := Video.lineStep_linesCounted (cfg := cfg)
      (v := { w with scanXNum := w.scanXNum + w.pixelFreq cfg - lineWidth cfg }) h.scanY_lt
    rw [← Video.step_of_lt hlt] at hcount hy
    refine ⟨lines + 1, hsame, ?_, fun _ => ?_, ?_, ?_, hy⟩
    · omega
    · omega
    · rw [hx, Nat.succ_mul]
      omega
    · rw [hcount, ← Nat.add_assoc, ← h.counted]
      rfl

theorem Video.steps_progress {cfg : Params} {v : Video} (hfreq : v.pixelFreq cfg ≤ lineWidth cfg)
    (hx : v.scanXNum ≤ lineWidth cfg) (hy : v.scanY < cfg.scanHeight) (n : Nat) :
    ∃ lines, v.Progress cfg (v.steps cfg n) (n * v.pixelFreq cfg) lines := by
  induction n with
  | zero => exact ⟨0, rfl, hx, fun h => absurd rfl h, by simp [Video.steps], rfl, hy⟩
  | succ n ih =>
    obtain ⟨lines, h⟩ := ih
    rw [Video.steps_succ, Nat.succ_mul]
    exact h.step hfreq

/-- The lines completed are all but one of those begun. -/
theorem Video.Progress.lines_eq {cfg : Params} {v w : Video} {dots lines : Nat} (h : v.Progress cfg w dots lines)
    (hpos : 0 < lineWidth cfg) : lines = (v.scanXNum + dots - 1) / lineWidth cfg := by
  have hle := h.scanX_le
  rw [← h.scanX]
  by_cases hl : lines = 0
  · subst hl
    rw [Nat.div_eq_of_lt (by omega)]
  · have hx := h.scanX_pos hl
    rw [show w.scanXNum + lines * lineWidth cfg - 1 = w.scanXNum - 1 + lines * lineWidth cfg by omega,
      Nat.add_mul_div_right _ _ hpos, Nat.div_eq_of_lt (by omega), Nat.zero_add]

/-! ### The frame buffer (R474) -/

theorem Video.composeLine_pixel_other {cfg : Params} {eff row : Nat} (h : row ≠ eff) (v : Video) (col : Nat) :
    (v.composeLine cfg eff).pixel cfg row col = v.pixel cfg row col := by
  rw [Video.composeLine_pixel, if_neg h, Video.pixel]

theorem Video.composeLine_pixel_same {cfg : Params} {row col : Nat} (hr : row < cfg.screenHeight)
    (hc : col < cfg.screenWidth) (v : Video) :
    (v.composeLine cfg row).pixel cfg row col = (v.linePixels cfg row)[col]? := by
  have hlen : col < (v.linePixels cfg row).length := by rwa [Video.linePixels_length]
  rw [Video.composeLine_pixel, if_pos ⟨hr, hc⟩, if_pos rfl, List.getElem?_eq_getElem hlen,
    List.getD_eq_getElem _ _ hlen]

theorem Video.pixel_isSome (v : Video) (cfg : Params) (row col : Nat) :
    (v.pixel cfg row col).isSome = true ↔ row < cfg.screenHeight ∧ col < cfg.screenWidth := by
  unfold Video.pixel
  split <;> simp [*]

/-- Settles O59: the registers by what one step may change, the line step by its equation and the bits of the status,
the lines by the progress of one step, the frame buffer by its rows. -/
theorem videoStepWritesOnlyItsOutput : Obligations.VideoStepWritesOnlyItsOutput := by
  unfold Obligations.VideoStepWritesOnlyItsOutput
  refine ⟨fun cfg n v => ?registers, fun cfg v => ?step, fun cfg v => ?line, fun cfg n v => ?lines,
    fun cfg eff row col v => ?frameBuffer⟩
  case registers =>
    obtain ⟨x, y, k, isr, mask, fb, h⟩ := v.steps_sameRegisters cfg n
    rw [h]
    exact ⟨_, rfl, rfl⟩
  case step => exact ⟨Video.step_of_le, Video.step_of_lt, rfl, fun _ => rfl⟩
  case line =>
    intro w y eff shown reported
    have hw : w = v.lineStep cfg := rfl
    have hreport : v.reportsCollisions cfg = true ↔ reported := v.reportsCollisions_iff cfg
    have hline : v.signalsLine cfg = true ↔
        eff = v.irqLine.toNat ∧ (cfg.rasterNeedsEnable = true → v.ien.getLsbD 1 = true) := v.signalsLine_iff cfg
    rw [hw]
    refine ⟨?frame, fun h => ?composed, fun h => ?kept, ?vsync, ?compare, ?collision, ?fifo, fun h => ?mask,
      fun h => ?nibble⟩
    case frame =>
      rw [Video.lineStep_eq]
      rfl
    case composed =>
      rw [Video.lineStep_eq]
      exact ⟨if_pos h, if_pos h⟩
    case kept =>
      rw [Video.lineStep_eq]
      exact ⟨if_neg h, if_neg h⟩
    case vsync =>
      rw [v.lineStep_getLsbD_isr cfg (by omega), ← v.signalsFrame_iff cfg]
      simp
    case compare =>
      rw [v.lineStep_getLsbD_isr cfg (by omega), ← hline]
      simp
    case collision =>
      rw [v.lineStep_getLsbD_isr cfg (by omega), ← hreport]
      simp
    case fifo =>
      rw [v.lineStep_getLsbD_isr cfg (by omega)]
      simp
    case mask => rw [v.lineStep_highNibble_isr, if_pos (hreport.mpr h)]
    case nibble => rw [v.lineStep_highNibble_isr, if_neg (hreport.not.mpr h)]
  case lines =>
    intro freq width lines hpos hfreq hx hy
    obtain ⟨l, h⟩ := Video.steps_progress (cfg := cfg) hfreq hx hy n
    have hl : l = lines := h.lines_eq hpos
    subst hl
    exact ⟨h.scanX, h.counted, h.scanY_lt⟩
  case frameBuffer =>
    exact ⟨fun h => Video.composeLine_pixel_other h v col, v.pixel_isSome cfg row col,
      fun hr hc => Video.composeLine_pixel_same hr hc v⟩

end Sys2Proof.Machine

/-! The composed pixel (`51_renderer.md` R436 to R441, R450 to R457, R470 to R473): `Mix`, the colour of a palette
entry, the overscan, the columns of a line, and the reference layer function on numbers. -/

namespace Sys2Proof.Machine

open Sys2Proof.Config Sys2Proof.Claims

/-! ### Bit fields as masks and shifts (R13) -/

/-- The field of `n` bits from bit `lo` on, by a mask and a shift. -/
theorem bits_shifted_mask (r n lo : Nat) : bits r ((2 ^ n - 1) <<< lo) lo = r / 2 ^ lo % 2 ^ n := by
  rw [bits, Nat.shiftRight_and_distrib, Nat.shiftLeft_shiftRight, Nat.and_two_pow_sub_one_eq_mod,
    Nat.shiftRight_eq_div_pow]

/-- The field `b[hi:lo]` by its mask. -/
theorem bits_eq_field (b : Byte) (hi lo mask : Nat) (h : (2 ^ (hi + 1 - lo) - 1) <<< lo = mask) :
    bits b.toNat mask lo = field b hi lo := by
  rw [← h, bits_shifted_mask, field]

theorem field_low (b : Byte) : field b 3 0 = b.toNat % 16 := by
  rw [field, Nat.pow_zero, Nat.div_one]
  rfl

theorem field_high (b : Byte) : field b 7 4 = b.toNat / 16 := by
  have hb := b.isLt
  exact Nat.mod_eq_of_lt (show b.toNat / 16 < 16 by omega)

/-- A bit of a byte is its field of one bit. -/
theorem testBit_iff_bits (b : Byte) (n mask : Nat) (h : 1 <<< n = mask) :
    testBit b n = true ↔ bits b.toNat mask n = 1 := by
  have hlen : n + 1 - n = 1 := Nat.add_sub_cancel_left n 1
  rw [bits_eq_field b n n mask (by rw [hlen]; exact h), field, hlen, testBit, ← BitVec.testBit_toNat,
    Nat.testBit_eq_decide_div_mod_eq, decide_eq_true_iff, Nat.pow_one]

/-- A number below 256 is its byte. -/
theorem byte_toNat_of_lt {n : Nat} (h : n < 256) : (BitVec.ofNat 8 n).toNat = n := by
  rw [BitVec.toNat_ofNat]
  exact Nat.mod_eq_of_lt h

/-! ### `Mix` (R440) -/

/-- The first colour of a list that is not 0, and 0 if there is none. -/
def firstShown (l : List Byte) : Byte := (l.find? (fun c => c ≠ 0)).getD 0

theorem firstShown_cons (a : Byte) (l : List Byte) : firstShown (a :: l) = if a ≠ 0 then a else firstShown l := by
  rw [firstShown, List.find?_cons]
  by_cases h : a = 0
  · rw [decide_eq_false (not_not.mpr h), if_neg (not_not.mpr h), firstShown]
  · rw [decide_eq_true h, if_pos h, Option.getD_some]

theorem firstShown_singleton (a : Byte) : firstShown [a] = a := by
  rw [firstShown_cons]
  split
  · rfl
  · next h => exact (not_not.mp h).symm

theorem mix_eq_firstShown (s l0 l1 : Byte) (z : Nat) :
    mix s z l0 l1 =
      firstShown (if z = 3 then [s, l1, l0] else if z = 2 then [l1, s, l0] else if z = 1 then [l1, l0, s]
        else [l1, l0]) := by
  simp only [apply_ite firstShown, firstShown_cons _ (_ :: _), firstShown_singleton]
  rfl

/-! ### Colours (R470 to R473) -/

theorem Video.outMode_eq (v : Video) : v.outMode = v.composer.video.toNat % 4 := by
  rw [Video.outMode, field, Nat.pow_zero, Nat.div_one]
  rfl

/-- A channel: the average where chroma is disabled, else 17 times the nibble, divided by 4 in the overscan. -/
def channel (off quarter : Bool) (sum n : Nat) : Nat := (if off then sum / 3 else n * 17) / (if quarter then 4 else 1)

theorem channel_lt {off quarter : Bool} {sum n : Nat} (hsum : sum ≤ 3 * 255) (hn : n < 16) :
    channel off quarter sum n < 256 := by
  unfold channel
  split <;> split <;> omega

/-- Whether the colours of a pixel are divided by 4 (R473). -/
def Video.dimmed (v : Video) (cfg : Params) (x eff : Nat) : Bool := v.outMode = 2 && overscan cfg x eff

theorem Video.dimmed_iff (v : Video) (cfg : Params) (x eff : Nat) :
    v.dimmed cfg x eff = true ↔ v.composer.video.toNat % 4 = 2 ∧ overscan cfg x eff = true := by
  rw [Video.dimmed, Bool.and_eq_true, decide_eq_true_iff, Video.outMode_eq]

theorem Video.colour_eq (v : Video) (cfg : Params) (i : Byte) (x eff : Nat) (lo hi : Byte)
    (hlo : v.vram.read (0x1FA00 + 2 * i.toNat) = lo) (hhi : v.vram.read (0x1FA00 + 2 * i.toNat + 1) = hi) :
    let sum := hi.toNat % 16 * 17 + lo.toNat / 16 * 17 + lo.toNat % 16 * 17
    let shown := fun n => BitVec.ofNat 8 (channel v.chromaDisable (v.dimmed cfg x eff) sum n)
    v.colour cfg i x eff = ⟨shown (hi.toNat % 16), shown (lo.toNat / 16), shown (lo.toNat % 16)⟩ := by
  simp only [Video.colour, Video.palette, hlo, hhi, field_low, field_high, chroma, channel]
  cases v.chromaDisable <;> rfl

theorem overscan_default (x eff : Nat) :
    overscan Params.default x eff = decide (x < 43 ∨ 597 < x ∨ eff < 24 ∨ 456 < eff) := by
  have hd : Params.default.overscanDenominator = 1000 := rfl
  have hw : Params.default.screenWidth = 640 := rfl
  have hh : Params.default.screenHeight = 480 := rfl
  have hx : Params.default.overscanX = 67 := rfl
  have hy : Params.default.overscanY = 50 := rfl
  rw [Bool.eq_iff_iff]
  simp only [overscan, hd, hw, hh, hx, hy, Bool.or_eq_true, decide_eq_true_iff]
  omega

/-! ### The columns of a line (R436, R437, R441) -/

theorem Video.lineIsBorder_iff (v : Video) (eff : Nat) :
    v.lineIsBorder eff = true ↔ eff < 2 * v.composer.vstart.toNat ∨ 2 * v.composer.vstop.toNat ≤ eff := by
  rw [Video.lineIsBorder, Bool.or_eq_true, decide_eq_true_iff, decide_eq_true_iff, Video.vstart, Video.vstop]
  omega

/-- On the screen the cut of the active columns makes no difference. -/
theorem Video.columnIndex_eq {v : Video} {cfg : Params} {x : Nat} (hx : x < cfg.screenWidth)
    (cells : List SpriteCell) (y : Nat) :
    v.columnIndex cfg cells y x =
      if x < 4 * v.composer.hstart.toNat ∨ 4 * v.composer.hstop.toNat ≤ x then v.composer.border
      else v.activeIndex cfg cells (min (4 * v.composer.hstart.toNat) cfg.screenWidth) y x := by
  simp only [Video.columnIndex, Nat.mul_comm 4]
  exact if_congr (by omega) rfl rfl

/-- The sprite line of an active line with sprites on. -/
theorem Video.spriteLineOf_eq {v : Video} {cfg : Params} {eff : Nat} (hout : v.outMode ≠ 0)
    (hline : v.lineIsBorder eff = false) (hsprites : v.spritesEnabled = true) :
    v.spriteLineOf cfg eff = some (v.renderSpriteLine cfg (v.ySrc eff)) := by
  rw [Video.spriteLineOf, if_neg (by simp [hout, hline, hsprites])]

theorem Video.ySrc_eq (v : Video) (eff : Nat) :
    v.ySrc eff = v.composer.vscale.toNat * (eff - 2 * v.composer.vstart.toNat) / 128 := by
  rw [Video.ySrc, Video.vstart, Nat.mul_comm 2]

/-- On an active line an active column mixes the sprite line, where sprites are on, with the enabled layers. -/
theorem Video.activeIndex_of_active {v : Video} {cfg : Params} {eff : Nat} (hout : v.outMode ≠ 0)
    (hline : v.lineIsBorder eff = false) (hs x : Nat) :
    let xs := v.composer.hscale.toNat * (x - hs) / 128
    let cell := (v.renderSpriteLine cfg (v.ySrc eff)).cells.getD xs ⟨0, 0, 0⟩
    v.activeIndex cfg (((v.spriteLineOf cfg eff).map SpriteLine.cells).getD []) hs (v.ySrc eff) x =
      mix (if v.spritesEnabled then cell.col else 0) (if v.spritesEnabled then cell.z else 0)
        (if v.layerEnabled false then v.layerPixel cfg false xs (v.ySrc eff) else 0)
        (if v.layerEnabled true then v.layerPixel cfg true xs (v.ySrc eff) else 0) := by
  unfold Video.activeIndex
  by_cases hsprites : v.spritesEnabled = true
  · rw [Video.spriteLineOf_eq hout hline hsprites]
    simp only [hsprites, if_true]
    rfl
  · simp only [hsprites]
    rfl

theorem Video.linePixels_getElem? {v : Video} {cfg : Params} {eff x : Nat} (hx : x < cfg.screenWidth) :
    (v.linePixels cfg eff)[x]? = some (
      if v.outMode = 0 then Rgb.blue
      else if v.lineIsBorder eff then v.colour cfg v.composer.border x eff
      else v.colour cfg
        (v.columnIndex cfg (((v.spriteLineOf cfg eff).map SpriteLine.cells).getD []) (v.ySrc eff) x) x eff) := by
  rw [Video.linePixels, List.getElem?_map, List.getElem?_range hx, Option.map_some]

/-! ### The reference layer function on numbers (R450 to R457) -/

/-- A bit of a byte chooses between a size and its double. -/
theorem size_eq (b : Byte) (n mask : Nat) (h : 1 <<< n = mask) :
    (if bits b.toNat mask n = 1 then 16 else 8) = 8 * 2 ^ field b n n := by
  have hlen : n + 1 - n = 1 := Nat.add_sub_cancel_left n 1
  rw [bits_eq_field b n n mask (by rw [hlen]; exact h)]
  have hlt : field b n n < 2 := by
    rw [field, hlen]
    exact Nat.mod_lt _ (by decide)
  split
  · next h1 => rw [h1]; rfl
  · next h1 => rw [show field b n n = 0 by omega]; rfl

theorem Layer.bpp_eq (l : Layer) : 1 <<< bits l.config.toNat 3 0 = l.bpp := by
  rw [bits_eq_field l.config 1 0 3 rfl, Nat.one_shiftLeft, Layer.bpp]

theorem Layer.tileAddr_eq (l : Layer) : (l.tileBase.toNat &&& 0xFC) <<< 9 = l.tileAddr := by
  have h : ∀ b : Byte, (b.toNat &&& 0xFC) <<< 9 = field b 7 2 * 2048 := by decide
  exact h l.tileBase

theorem Layer.mapAddr_eq (l : Layer) : l.mapBase.toNat <<< 9 = l.mapAddr := Nat.shiftLeft_eq _ _

theorem Layer.tileW_eq (l : Layer) : (if bits l.tileBase.toNat 1 0 = 1 then 16 else 8) = l.tileW :=
  size_eq l.tileBase 0 1 rfl

theorem Layer.tileH_eq (l : Layer) : (if bits l.tileBase.toNat 2 1 = 1 then 16 else 8) = l.tileH :=
  size_eq l.tileBase 1 2 rfl

theorem Layer.mapW_eq (l : Layer) : 32 <<< bits l.config.toNat 0x30 4 = l.mapW := by
  rw [bits_eq_field l.config 5 4 0x30 rfl, Nat.shiftLeft_eq, Layer.mapW]

theorem Layer.mapH_eq (l : Layer) : 32 <<< bits l.config.toNat 0xC0 6 = l.mapH := by
  rw [bits_eq_field l.config 7 6 0xC0 rfl, Nat.shiftLeft_eq, Layer.mapH]

theorem Layer.bitmapW_eq (l : Layer) : (if bits l.tileBase.toNat 1 0 = 1 then 640 else 320) = l.bitmapW :=
  if_congr (testBit_iff_bits l.tileBase 0 1 rfl).symm rfl rfl

theorem Layer.bitmap_iff (l : Layer) : l.bitmap = true ↔ bits l.config.toNat 4 2 = 1 :=
  testBit_iff_bits l.config 2 4 rfl

theorem Layer.hscroll_eq {l : Layer} (h : l.bitmap = false) :
    bits l.hscrollH.toNat 0x0F 0 * 256 + l.hscrollL.toNat = l.hscroll := by
  rw [bits_eq_field l.hscrollH 3 0 0x0F rfl, Layer.hscroll, h]
  rfl

theorem Layer.vscroll_eq {l : Layer} (h : l.bitmap = false) :
    bits l.vscrollH.toNat 0x0F 0 * 256 + l.vscrollL.toNat = l.vscroll := by
  rw [bits_eq_field l.vscrollH 3 0 0x0F rfl, Layer.vscroll, h]
  rfl

/-- Text is one bit per pixel, not as a bitmap (R407). -/
theorem Layer.text_iff {l : Layer} (h : l.bitmap = false) : l.text = true ↔ l.bpp = 1 := by
  rw [Layer.text, h, Layer.bpp, Nat.pow_eq_one]
  simp

theorem paletteOffset_toNat {c offset : Nat} (hc : c < 256) (ho : offset < 16) :
    (paletteOffset c offset).toNat = offsetColour c offset := by
  rw [paletteOffset, offsetColour]
  exact byte_toNat_of_lt (by split <;> omega)

theorem pixelBits_lt (b : Byte) (bpp o : Nat) : pixelBits b bpp o < 256 :=
  Nat.lt_of_le_of_lt ((Nat.mod_le _ _).trans (Nat.div_le_self _ _)) b.isLt

theorem pixelBits_eq (b : Byte) (bpp o : Nat) : (b.toNat >>> (8 - bpp - o)) % 2 ^ bpp = pixelBits b bpp o := by
  rw [pixelBits, Nat.shiftRight_eq_div_pow]

theorem field_lt_sixteen (b : Byte) (lo : Nat) : field b (lo + 3) lo < 16 := by
  rw [field, show lo + 3 + 1 - lo = 4 by omega]
  exact Nat.mod_lt _ (by decide)

theorem Video.bitmapPixel_toNat (v : Video) (l : Layer) (x y : Nat) :
    (v.bitmapPixel l x y).toNat =
      offsetColour
        (pixelBits (v.fetch (l.tileAddr + y % 480 * (l.bitmapW * l.bpp / 8) + x % l.bitmapW * l.bpp / 8)) l.bpp
          (x % l.bitmapW * l.bpp % 8))
        (field l.hscrollH 3 0) :=
  paletteOffset_toNat (pixelBits_lt _ _ _) (field_lt_sixteen l.hscrollH 0)

theorem Video.textPixel_toNat (v : Video) (l : Layer) (b0 b1 : Byte) (tx ty : Nat) :
    (v.textPixel l b0 b1 tx ty).toNat =
      let lit := (v.fetch (l.tileAddr + b0.toNat * (l.tileW / 8) * l.tileH + ty * (l.tileW / 8) + tx / 8)).toNat.testBit
        (7 - tx % 8)
      if l.text256 then (if lit then b1.toNat else 0) else (if lit then b1.toNat % 16 else b1.toNat / 16) := by
  have hb := b1.isLt
  simp only [Video.textPixel, testBit, BitVec.testBit_toNat, field_low, field_high]
  rw [byte_toNat_of_lt (by split <;> split <;> omega)]
  split <;> rfl

theorem Video.tilePixel_toNat (v : Video) (l : Layer) (b0 b1 : Byte) (tx ty : Nat) :
    (v.tilePixel l b0 b1 tx ty).toNat =
      let tx := if testBit b1 2 then l.tileW - 1 - tx else tx
      let ty := if testBit b1 3 then l.tileH - 1 - ty else ty
      offsetColour
        (pixelBits (v.fetch (l.tileAddr + (b0.toNat + 256 * field b1 1 0) * (l.tileW * l.tileH * l.bpp / 8) +
          ty * (l.tileW * l.bpp / 8) + tx * l.bpp / 8)) l.bpp (tx * l.bpp % 8))
        (b1.toNat / 16) := by
  rw [← field_high]
  exact paletteOffset_toNat (pixelBits_lt _ _ _) (field_lt_sixteen b1 4)

/-- The reference layer function on the numbers in the registers. -/
theorem Video.layerReference_toNat (v : Video) (l : Layer) (x y : Nat) :
    (v.layerReference l x y).toNat = layerColour v (fun k => (l.get k).toNat) x y := by
  have hfetch (a : Nat) : v.vram.read (a % 0x20000) = v.fetch a := rfl
  simp only [layerColour, Layer.get, hfetch, l.bpp_eq, l.tileAddr_eq, l.mapAddr_eq, l.tileW_eq, l.tileH_eq, l.mapW_eq,
    l.mapH_eq, l.bitmapW_eq, pixelBits_eq, ← l.bitmap_iff, Video.layerReference]
  cases hbitmap : l.bitmap with
  | true =>
    rw [if_pos rfl, if_pos rfl, Video.bitmapPixel_toNat, bits_eq_field l.hscrollH 3 0 0x0F rfl]
  | false =>
    simp only [Layer.hscroll_eq hbitmap, Layer.vscroll_eq hbitmap, ← Layer.text_iff hbitmap, Bool.false_eq_true,
      if_false]
    cases l.text with
    | true =>
      simp only [if_true, Video.textPixel_toNat, ← testBit_iff_bits l.config 3 8 rfl]
      rfl
    | false =>
      simp only [Bool.false_eq_true, if_false, Video.tilePixel_toNat, bits_eq_field _ 1 0 3 rfl,
        ← testBit_iff_bits _ 2 4 rfl, ← testBit_iff_bits _ 3 8 rfl]

/-- Settles O60: `Mix` as the first colour shown, the three channels by one form, the overscan by arithmetic, a column
by its border and its active part, the layers by the reference function on numbers. -/
theorem mixByDepth : Obligations.MixByDepth := by
  unfold Obligations.MixByDepth
  refine ⟨fun s l0 l1 z => mix_eq_firstShown s l0 l1 z, fun v cfg i x eff => ?colour, overscan_default,
    fun v cfg eff x hx => ?column, fun v cfg one x y hfn => ?layer⟩
  case colour =>
    intro lo hi shown
    have hshown (n : Nat) :
        channel v.chromaDisable (v.dimmed cfg x eff) (hi % 16 * 17 + lo / 16 * 17 + lo % 16 * 17) n = shown n := by
      simp only [channel, v.dimmed_iff cfg x eff]
      rfl
    have hlo : lo < 256 := BitVec.isLt _
    rw [v.colour_eq cfg i x eff _ _ rfl rfl, ← hshown, ← hshown, ← hshown]
    exact ⟨byte_toNat_of_lt (channel_lt (by omega) (by omega)), byte_toNat_of_lt (channel_lt (by omega) (by omega)),
      byte_toNat_of_lt (channel_lt (by omega) (by omega))⟩
  case column =>
    intro c hs xs ys cell sprites
    rw [Video.linePixels_getElem? hx, ← v.outMode_eq]
    have hborder := v.lineIsBorder_iff eff
    refine congrArg some (ite_congr rfl (fun _ => rfl) fun hout => ?_)
    by_cases hline : v.lineIsBorder eff = true
    · rw [if_pos hline, if_pos ((hborder.mp hline).imp_right Or.inl)]
    · rw [if_neg hline, Video.columnIndex_eq hx]
      by_cases hcol : x < 4 * c.hstart.toNat ∨ 4 * c.hstop.toNat ≤ x
      · rw [if_pos hcol, if_pos (.inr (.inr hcol))]
      · rw [if_neg hcol, if_neg (by tauto), Video.activeIndex_of_active hout (by simpa using hline), Video.ySrc_eq]
        rfl
  case layer =>
    rw [Video.layerPixel, hfn]
    exact v.layerReference_toNat _ x y

end Sys2Proof.Machine

/-! The sprite line (`51_renderer.md` R443 to R447, R481): a sprite by the numbers of its bytes, what the budget has
paid for and what the line shows after any number of sprites and pixels, and the report of collisions. -/

namespace Sys2Proof.Machine

open Sys2Proof.Config Sys2Proof.Claims

/-! ### A sprite by its numbers (R415, R416) -/

theorem and_three_eq_field (b : Byte) : b.toNat &&& 3 = field b 1 0 := bits_eq_field b 1 0 3 rfl

theorem and_fifteen_eq_field (b : Byte) : b.toNat &&& 0x0F = field b 3 0 := bits_eq_field b 3 0 0x0F rfl

theorem Video.sprite_width (v : Video) (i : Nat) : (v.sprite i).width = spriteWidth v i := by
  rw [spriteWidth, Nat.shiftLeft_eq, attr, bits_eq_field _ 5 4 0x30 rfl]
  rfl

theorem Video.sprite_height (v : Video) (i : Nat) : (v.sprite i).height = spriteHeight v i := by
  rw [spriteHeight, Nat.shiftLeft_eq, attr, bits_eq_field _ 7 6 0xC0 rfl]
  rfl

theorem spriteCoord_eq (lo hi : Byte) (size : Nat) : spriteCoord lo hi size = coordinate lo.toNat hi.toNat size := by
  rw [coordinate, and_three_eq_field]
  rfl

theorem Video.sprite_x (v : Video) (i : Nat) : (v.sprite i).x = spriteX v i := by
  rw [spriteX, ← v.sprite_width i]
  exact spriteCoord_eq _ _ _

theorem Video.sprite_y (v : Video) (i : Nat) : (v.sprite i).y = spriteY v i := by
  rw [spriteY, ← v.sprite_height i]
  exact spriteCoord_eq _ _ _

theorem Video.sprite_z (v : Video) (i : Nat) : (v.sprite i).z = spriteZ v i := by
  rw [spriteZ, attr, bits_eq_field _ 3 2 0x0C rfl]
  rfl

theorem Video.sprite_paloff (v : Video) (i : Nat) : (v.sprite i).paloff = attr v i 7 &&& 0x0F := by
  rw [attr, and_fifteen_eq_field]
  rfl

theorem Video.sprite_addr (v : Video) (i : Nat) :
    (v.sprite i).addr = (attr v i 0 <<< 5) + ((attr v i 1 &&& 0x0F) <<< 13) := by
  rw [attr, attr, and_fifteen_eq_field, Nat.shiftLeft_eq, Nat.shiftLeft_eq]
  rfl

theorem Video.sprite_mode8 (v : Video) (i : Nat) : (v.sprite i).mode8 = deep v i := rfl

theorem Video.sprite_mask_getLsbD (v : Video) (i k : Nat) : (v.sprite i).mask.getLsbD k = inMask v i k := by
  rw [inMask, attr, ← BitVec.testBit_toNat]
  exact congrArg (Nat.testBit · k) (BitVec.toNat_and _ _)

theorem onLine_iff (v : Video) (y i : Nat) :
    onLine v y i = true ↔ spriteZ v i ≠ 0 ∧ spriteY v i ≤ y ∧ (y : Int) < spriteY v i + spriteHeight v i :=
  decide_eq_true_iff

/-! ### Sprite pixels (R444) -/

/-- The row of the data of sprite `i` that the line `y` shows. -/
def Video.sourceRow (v : Video) (y i : Nat) : Nat :=
  let s := v.sprite i
  let row := ((y : Int) - s.y).toNat
  if s.vflip then s.height - 1 - row else row

theorem Video.spritePixel_eq (v : Video) (y i n : Nat) :
    v.spritePixel (v.sprite i) (if (v.sprite i).hflip then (v.sprite i).width - 1 - n else n) (v.sourceRow y i) =
      spriteColour v y i n := by
  simp only [Video.spritePixel, spriteColour, Video.sourceRow, field_low, field_high, ← v.sprite_width i,
    ← v.sprite_height i, ← v.sprite_y i, ← v.sprite_addr i, ← v.sprite_mode8 i]
  rfl

theorem Video.spritePixel_lt (v : Video) (s : Sprite) (px row : Nat) : v.spritePixel s px row < 256 := by
  unfold Video.spritePixel
  split
  · exact BitVec.isLt _
  · dsimp only
    split
    · exact Nat.lt_trans (field_lt_sixteen _ 4) (by decide)
    · exact Nat.lt_trans (field_lt_sixteen _ 0) (by decide)

theorem spriteColour_lt (v : Video) (y i n : Nat) : spriteColour v y i n < 256 := by
  rw [← v.spritePixel_eq]
  exact v.spritePixel_lt _ _ _

/-! ### The budget (R443, R446) -/

theorem pixelsCost_succ (cfg : Params) (v : Video) (i n : Nat) :
    pixelsCost cfg v i (n + 1) = pixelsCost cfg v i n + pixelCost cfg v i n := by
  simp [pixelsCost, List.range_succ]

theorem spritesCost_succ (cfg : Params) (v : Video) (y i : Nat) :
    spritesCost cfg v y (i + 1) = spritesCost cfg v y i + cfg.spriteLookupCost +
      if onLine v y i then pixelsCost cfg v i (spriteWidth v i) else 0 := by
  simp [spritesCost, List.range_succ, Nat.add_assoc]

/-- Charges of `cost` in all were asked of the line: it has ended exactly if they exceed the budget, and otherwise the
rest is left. -/
structure SpriteLine.Paid (cfg : Params) (cost : Nat) (l : SpriteLine) : Prop where
  exhausted : l.exhausted = true ↔ cfg.spriteBudget < cost
  rest : cost ≤ cfg.spriteBudget → l.budget + cost = cfg.spriteBudget

theorem SpriteLine.Paid.charge {cfg : Params} {cost : Nat} {l : SpriteLine} (h : l.Paid cfg cost) (n : Nat) :
    (l.charge n).Paid cfg (cost + n) := by
  have hex := h.exhausted
  have hrest := h.rest
  rcases SpriteLine.charge_cases n l with ⟨he, hl⟩ | ⟨he, hlt, hl⟩ | ⟨he, hle, hl⟩
  · have hover := hex.mp he
    rw [hl]
    exact ⟨iff_of_true he (by omega), by omega⟩
  · have hpaid : ¬cfg.spriteBudget < cost := by simp [← hex, he]
    rw [hl]
    exact ⟨iff_of_true rfl (by omega), by omega⟩
  · have hpaid : ¬cfg.spriteBudget < cost := by simp [← hex, he]
    rw [hl]
    exact ⟨iff_of_false (by simp [he]) (by omega), fun _ => show l.budget - n + (cost + n) = _ by omega⟩

/-- Charges after the end of the line change nothing. -/
theorem SpriteLine.Paid.of_exhausted {cfg : Params} {cost cost' : Nat} {l : SpriteLine} (h : l.Paid cfg cost)
    (he : l.exhausted = true) (hle : cost ≤ cost') : l.Paid cfg cost' := by
  have hover := h.exhausted.mp he
  exact ⟨iff_of_true he (by omega), by omega⟩

@[simp] theorem SpriteLine.charge_cells (n : Nat) (l : SpriteLine) : (l.charge n).cells = l.cells := by
  rcases SpriteLine.charge_cases n l with ⟨_, hl⟩ | ⟨_, _, hl⟩ | ⟨_, _, hl⟩ <;> rw [hl]

/-- The charges for one pixel on the screen: one at a 32-bit boundary, and one for the pixel. -/
def SpriteLine.chargePixel (boundary : Bool) (l : SpriteLine) : SpriteLine :=
  (if boundary then l.charge 1 else l).charge 1

theorem SpriteLine.chargePixel_cells (boundary : Bool) (l : SpriteLine) :
    (l.chargePixel boundary).cells = l.cells := by
  cases boundary <;> simp [SpriteLine.chargePixel]

theorem SpriteLine.chargePixel_collisions (boundary : Bool) (l : SpriteLine) :
    (l.chargePixel boundary).collisions = l.collisions := by
  cases boundary <;> simp [SpriteLine.chargePixel, SpriteLine.charge_collisions]

theorem SpriteLine.Paid.chargePixel {cfg : Params} {cost : Nat} {l : SpriteLine} (h : l.Paid cfg cost)
    (boundary : Bool) : (l.chargePixel boundary).Paid cfg (cost + if boundary then 2 else 1) := by
  cases boundary with
  | true => exact (h.charge 1).charge 1
  | false => exact h.charge 1

/-! ### What the scratch arrays show (R443, R445, R447) -/

/-- A column on which exactly the pixels `drawn i c` (sprite `i`, colour `c`) have landed: the masks seen, the greatest
depth, and the colour of the lowest-numbered sprite of that depth. -/
structure SpriteCell.Shows (v : Video) (drawn : Nat → Nat → Prop) (cell : SpriteCell) : Prop where
  mask : ∀ k, cell.mask.getLsbD k = true ↔ ∃ i c, drawn i c ∧ inMask v i k = true
  clear : (∀ i c, ¬drawn i c) → cell.z = 0 ∧ cell.col = 0
  greatest : ∀ i c, drawn i c → spriteZ v i ≤ cell.z
  colour : ∀ i c, drawn i c → spriteZ v i = cell.z → (∀ j d, j < i → drawn j d → spriteZ v j < cell.z) →
    cell.col.toNat = offsetColour c (attr v i 7 &&& 0x0F)
  attained : (∃ i c, drawn i c) → ∃ i c, drawn i c ∧ spriteZ v i = cell.z

theorem SpriteCell.clear_shows (v : Video) : SpriteCell.clear.Shows v fun _ _ => False where
  mask k := by simp [SpriteCell.clear]
  clear _ := ⟨rfl, rfl⟩
  greatest _ _ h := h.elim
  colour _ _ h := h.elim
  attained := fun ⟨_, _, h⟩ => h.elim

/-- A column after a pixel of colour `c` of the sprite `s`. -/
def SpriteCell.draw (s : Sprite) (c : Nat) (cell : SpriteCell) : SpriteCell :=
  { col := if decide (cell.z < s.z) then paletteOffset c s.paloff else cell.col
    z := if decide (cell.z < s.z) then s.z else cell.z
    mask := cell.mask ||| s.mask }

theorem SpriteCell.draw_of_lt {s : Sprite} {cell : SpriteCell} (h : cell.z < s.z) (c : Nat) :
    cell.draw s c = ⟨paletteOffset c s.paloff, s.z, cell.mask ||| s.mask⟩ := by
  simp [SpriteCell.draw, h]

theorem SpriteCell.draw_of_le {s : Sprite} {cell : SpriteCell} (h : s.z ≤ cell.z) (c : Nat) :
    cell.draw s c = ⟨cell.col, cell.z, cell.mask ||| s.mask⟩ := by
  simp [SpriteCell.draw, h]

/-- A pixel of a sprite that comes after all others on the column. -/
theorem SpriteCell.Shows.draw {v : Video} {drawn : Nat → Nat → Prop} {cell : SpriteCell} (h : cell.Shows v drawn)
    {i c : Nat} (hlast : ∀ j d, drawn j d → j < i) (hc : c < 256) (hz : spriteZ v i ≠ 0) :
    (cell.draw (v.sprite i) c).Shows v fun j d => drawn j d ∨ j = i ∧ d = c := by
  have hmask (k : Nat) : (cell.mask ||| (v.sprite i).mask).getLsbD k = true ↔
      ∃ j d, (drawn j d ∨ j = i ∧ d = c) ∧ inMask v j k = true := by
    rw [BitVec.getLsbD_or, Bool.or_eq_true, h.mask, Video.sprite_mask_getLsbD]
    constructor
    · rintro (⟨j, d, hd, hk⟩ | hk)
      · exact ⟨j, d, .inl hd, hk⟩
      · exact ⟨i, c, .inr ⟨rfl, rfl⟩, hk⟩
    · rintro ⟨j, d, hd | ⟨rfl, rfl⟩, hk⟩
      · exact .inl ⟨j, d, hd, hk⟩
      · exact .inr hk
  by_cases hlt : cell.z < (v.sprite i).z
  · rw [SpriteCell.draw_of_lt hlt]
    rw [v.sprite_z] at hlt ⊢
    refine ⟨hmask, fun hnone => absurd (.inr ⟨rfl, rfl⟩) (hnone i c), ?_, ?_, fun _ => ⟨i, c, .inr ⟨rfl, rfl⟩, rfl⟩⟩
    · rintro j d (hd | ⟨rfl, rfl⟩)
      · exact (h.greatest j d hd).trans (Nat.le_of_lt hlt)
      · exact Nat.le_refl _
    · rintro j d (hd | ⟨rfl, rfl⟩) hj _
      · have hle := h.greatest j d hd
        dsimp only at hj
        omega
      · rw [← Video.sprite_paloff]
        exact paletteOffset_toNat hc (field_lt_sixteen _ 0)
  · have hle := Nat.le_of_not_lt hlt
    rw [SpriteCell.draw_of_le hle]
    rw [v.sprite_z] at hle
    have hsome : ∃ j d, drawn j d := by
      by_contra hnone
      have hclear := (h.clear fun j d hd => hnone ⟨j, d, hd⟩).1
      omega
    obtain ⟨k, e, hk, hkz⟩ := h.attained hsome
    refine ⟨hmask, fun hnone => absurd (.inl hk) (hnone k e), ?_, ?_, fun _ => ⟨k, e, .inl hk, hkz⟩⟩
    · rintro j d (hd | ⟨rfl, rfl⟩)
      · exact h.greatest j d hd
      · exact hle
    · rintro j d (hd | ⟨rfl, rfl⟩) hj hfirst
      · exact h.colour j d hd hj fun j' d' hlt' hd' => hfirst j' d' hlt' (.inl hd')
      · exact absurd hkz (Nat.ne_of_lt (hfirst k e (hlast k e hk) (.inl hk)))

/-- A line on which exactly the pixels `drawn i x c` (sprite `i`, column `x`, colour `c`) have landed. -/
structure SpriteLine.Shows (cfg : Params) (v : Video) (drawn : Nat → Nat → Nat → Prop) (l : SpriteLine) : Prop where
  collisions : ∀ k, l.collisions.getLsbD k = true ↔ v.spriteCollisions.getLsbD k = true ∨
    ∃ i j x c d, i < j ∧ drawn i x c ∧ drawn j x d ∧ inMask v i k = true ∧ inMask v j k = true
  cells : ∀ x, x < cfg.screenWidth → ∃ cell, l.cells[x]? = some cell ∧ cell.Shows v fun i c => drawn i x c

/-- What a line shows stands in its columns and its collisions. -/
theorem SpriteLine.Shows.of_eq {cfg : Params} {v : Video} {drawn : Nat → Nat → Nat → Prop} {l m : SpriteLine}
    (h : l.Shows cfg v drawn) (hcells : m.cells = l.cells) (hcoll : m.collisions = l.collisions) :
    m.Shows cfg v drawn :=
  ⟨hcoll ▸ h.collisions, hcells ▸ h.cells⟩

theorem SpriteLine.Shows.congr {cfg : Params} {v : Video} {drawn drawn' : Nat → Nat → Nat → Prop} {l : SpriteLine}
    (h : l.Shows cfg v drawn) (hiff : ∀ i x c, drawn i x c ↔ drawn' i x c) : l.Shows cfg v drawn' := by
  have heq : drawn = drawn' := by
    funext i x c
    exact propext (hiff i x c)
  exact heq ▸ h

theorem SpriteLine.plot_eq (s : Sprite) (x c : Nat) (l : SpriteLine) {cell : SpriteCell} (h : l.cells[x]? = some cell) :
    l.plot s x c =
      { l with collisions := l.collisions ||| (cell.mask &&& s.mask), cells := l.cells.set x (cell.draw s c) } := by
  have hget : l.cells.getD x SpriteCell.clear = cell := by rw [List.getD_eq_getElem?_getD, h, Option.getD_some]
  rw [SpriteLine.plot, hget]
  rfl

/-- A pixel of a sprite that comes after all others on its column. -/
theorem SpriteLine.Shows.plot {cfg : Params} {v : Video} {drawn : Nat → Nat → Nat → Prop} {l : SpriteLine}
    (h : l.Shows cfg v drawn) {i x c : Nat} (hx : x < cfg.screenWidth) (hlast : ∀ j d, drawn j x d → j < i)
    (hc : c < 256) (hz : spriteZ v i ≠ 0) :
    (l.plot (v.sprite i) x c).Shows cfg v fun j x' d => drawn j x' d ∨ j = i ∧ x' = x ∧ d = c := by
  obtain ⟨cell, hget, hcell⟩ := h.cells x hx
  rw [SpriteLine.plot_eq _ _ _ _ hget]
  refine ⟨fun k => ?_, fun x' hx' => ?_⟩
  · dsimp only
    rw [BitVec.getLsbD_or, BitVec.getLsbD_and, Bool.or_eq_true, Bool.and_eq_true, h.collisions, hcell.mask,
      Video.sprite_mask_getLsbD, or_assoc]
    refine or_congr_right ⟨?_, ?_⟩
    · rintro (⟨j, j', x', d, d', hlt, hd, hd', hk, hk'⟩ | ⟨⟨j, d, hd, hk⟩, hi⟩)
      · exact ⟨j, j', x', d, d', hlt, .inl hd, .inl hd', hk, hk'⟩
      · exact ⟨j, i, x, d, c, hlast j d hd, .inl hd, .inr ⟨rfl, rfl, rfl⟩, hk, hi⟩
    · rintro ⟨j, j', x', d, d', hlt, hd | ⟨rfl, rfl, rfl⟩, hd' | ⟨rfl, hx', rfl⟩, hk, hk'⟩
      · exact .inl ⟨j, j', x', d, d', hlt, hd, hd', hk, hk'⟩
      · exact .inr ⟨⟨j, d, hx' ▸ hd, hk⟩, hk'⟩
      · exact absurd (hlast j' d' hd') (Nat.lt_asymm hlt)
      · exact absurd hlt (Nat.lt_irrefl _)
  · by_cases hxx : x' = x
    · subst hxx
      refine ⟨_, List.getElem?_set_self (List.getElem?_eq_some_iff.mp hget).1, ?_⟩
      simpa using hcell.draw hlast hc hz
    · obtain ⟨cell', hget', hcell'⟩ := h.cells x' hx'
      refine ⟨cell', by rw [List.getElem?_set_ne (Ne.symm hxx)]; exact hget', ?_⟩
      simpa [hxx] using hcell'

/-! ### One pixel after the other (the inner loop of R443) -/

/-- The pixels drawn before pixel `n` of sprite `i`. -/
def DrawnBefore (cfg : Params) (v : Video) (y i n j x c : Nat) : Prop :=
  draws cfg v y j x c ∧ (j < i ∨ j = i ∧ (x : Int) < column v i n)

/-- The charges before pixel `n` of sprite `i`, which is on the line. -/
def costBefore (cfg : Params) (v : Video) (y i n : Nat) : Nat :=
  spritesCost cfg v y i + cfg.spriteLookupCost + pixelsCost cfg v i n

/-- The line where the charges `cost` were asked for and pixel `n` of sprite `i` is next. -/
structure SpriteLine.At (cfg : Params) (v : Video) (y i n cost : Nat) (l : SpriteLine) : Prop where
  shows : l.Shows cfg v (DrawnBefore cfg v y i n)
  paid : l.Paid cfg cost

/-- Pixel `n` of a sprite on the line is drawn if it is on the screen, not transparent, and paid for. -/
theorem draws_at_column_iff {cfg : Params} {v : Video} {y i n x c : Nat} (hon : onLine v y i = true)
    (hn : n < spriteWidth v i) (hx : (x : Int) = column v i n) :
    draws cfg v y i x c ↔
      x < cfg.screenWidth ∧ c ≠ 0 ∧ c = spriteColour v y i n ∧ costBefore cfg v y i (n + 1) ≤ cfg.spriteBudget := by
  constructor
  · rintro ⟨_, hscreen, hc, sx, _, hcol, hcolour, hcost⟩
    have hsx : sx = n := by
      simp only [column] at hcol hx
      omega
    subst hsx
    exact ⟨hscreen, hc, hcolour, hcost⟩
  · rintro ⟨hscreen, hc, hcolour, hcost⟩
    exact ⟨hon, hscreen, hc, n, hn, hx.symm, hcolour, hcost⟩

/-- The pixels before pixel `n + 1` are those before pixel `n`, and pixel `n` if it is drawn. -/
theorem drawnBefore_succ_iff (cfg : Params) (v : Video) (y i n j x c : Nat) :
    DrawnBefore cfg v y i (n + 1) j x c ↔
      DrawnBefore cfg v y i n j x c ∨ j = i ∧ (x : Int) = column v i n ∧ draws cfg v y i x c := by
  have hcol : (x : Int) < column v i (n + 1) ↔ (x : Int) < column v i n ∨ (x : Int) = column v i n := by
    simp only [column]
    omega
  unfold DrawnBefore
  rw [hcol]
  constructor
  · rintro ⟨hd, hlt | ⟨rfl, hlt | heq⟩⟩
    · exact .inl ⟨hd, .inl hlt⟩
    · exact .inl ⟨hd, .inr ⟨rfl, hlt⟩⟩
    · exact .inr ⟨rfl, heq, hd⟩
  · rintro (⟨hd, hlt | ⟨rfl, hlt⟩⟩ | ⟨rfl, heq, hd⟩)
    · exact ⟨hd, .inl hlt⟩
    · exact ⟨hd, .inr ⟨rfl, .inl hlt⟩⟩
    · exact ⟨hd, .inr ⟨rfl, .inr heq⟩⟩

theorem drawnBefore_succ_of_not_drawn {cfg : Params} {v : Video} {y i n : Nat}
    (h : ∀ x c : Nat, (x : Int) = column v i n → ¬draws cfg v y i x c) (j x c : Nat) :
    DrawnBefore cfg v y i n j x c ↔ DrawnBefore cfg v y i (n + 1) j x c := by
  rw [drawnBefore_succ_iff, or_iff_left]
  rintro ⟨rfl, hx, hd⟩
  exact h x c hx hd

/-- The 32-bit boundaries of the pixels of a sprite. -/
def atBoundary (v : Video) (i n : Nat) : Bool := decide (n % (if deep v i then 4 else 8) = 0)

theorem Video.bpp_boundary_iff (v : Video) (i n : Nat) :
    n * (v.sprite i).bpp % 32 = 0 ↔ atBoundary v i n = true := by
  rw [Sprite.bpp, v.sprite_mode8, atBoundary, decide_eq_true_iff]
  split <;> omega

/-- The inner loop of R443 on numbers. -/
theorem Video.spriteColumn_eq (cfg : Params) (v : Video) (y i n : Nat) (l : SpriteLine) :
    v.spriteColumn cfg (v.sprite i) (v.sourceRow y i) n l =
      if column v i n < 0 ∨ cfg.screenWidth ≤ column v i n then l
      else
        let m := l.chargePixel (atBoundary v i n)
        if m.exhausted then m
        else if spriteColour v y i n = 0 then m
        else m.plot (v.sprite i) (column v i n).toNat (spriteColour v y i n) := by
  simp only [Video.spriteColumn, v.sprite_x, v.spritePixel_eq, v.bpp_boundary_iff]
  rfl

theorem pixelCost_of_off_screen {cfg : Params} {v : Video} {i n : Nat}
    (h : column v i n < 0 ∨ cfg.screenWidth ≤ column v i n) : pixelCost cfg v i n = 0 :=
  if_neg (by omega)

theorem pixelCost_of_on_screen {cfg : Params} {v : Video} {i n : Nat}
    (h : ¬(column v i n < 0 ∨ cfg.screenWidth ≤ column v i n)) :
    pixelCost cfg v i n = if atBoundary v i n then 2 else 1 := by
  rw [pixelCost, if_pos (by omega)]
  simp only [atBoundary, decide_eq_true_iff]

theorem costBefore_succ (cfg : Params) (v : Video) (y i n : Nat) :
    costBefore cfg v y i (n + 1) = costBefore cfg v y i n + pixelCost cfg v i n := by
  rw [costBefore, pixelsCost_succ, ← Nat.add_assoc, costBefore]

/-- One pixel of a sprite on the line. -/
theorem SpriteLine.At.pixel {cfg : Params} {v : Video} {y i n : Nat} {l : SpriteLine}
    (h : l.At cfg v y i n (costBefore cfg v y i n)) (hon : onLine v y i = true) (hn : n < spriteWidth v i) :
    (v.spriteColumn cfg (v.sprite i) (v.sourceRow y i) n l).At cfg v y i (n + 1) (costBefore cfg v y i (n + 1)) := by
  rw [Video.spriteColumn_eq]
  by_cases hoff : column v i n < 0 ∨ cfg.screenWidth ≤ column v i n
  · rw [if_pos hoff]
    refine ⟨h.shows.congr (drawnBefore_succ_of_not_drawn fun x c hx hd => ?_), ?_⟩
    · have hscreen := hd.2.1
      omega
    · rw [costBefore_succ, pixelCost_of_off_screen hoff, Nat.add_zero]
      exact h.paid
  · rw [if_neg hoff]
    have hshows := h.shows.of_eq (l.chargePixel_cells (atBoundary v i n)) (l.chargePixel_collisions _)
    have hpaid := h.paid.chargePixel (atBoundary v i n)
    rw [← pixelCost_of_on_screen hoff, ← costBefore_succ] at hpaid
    generalize l.chargePixel (atBoundary v i n) = m at hshows hpaid
    by_cases hex : m.exhausted = true
    · simp only [if_pos hex]
      refine ⟨hshows.congr (drawnBefore_succ_of_not_drawn fun x c hx hd => ?_), hpaid⟩
      obtain ⟨_, _, _, hcost⟩ := (draws_at_column_iff hon hn hx).mp hd
      exact absurd hcost (Nat.not_le.mpr (hpaid.exhausted.mp hex))
    · simp only [if_neg hex]
      by_cases hclear : spriteColour v y i n = 0
      · rw [if_pos hclear]
        refine ⟨hshows.congr (drawnBefore_succ_of_not_drawn fun x c hx hd => ?_), hpaid⟩
        obtain ⟨_, hc, hcolour, _⟩ := (draws_at_column_iff hon hn hx).mp hd
        exact hc (hcolour.trans hclear)
      · rw [if_neg hclear]
        have hlast (j d : Nat) (hd : DrawnBefore cfg v y i n j (column v i n).toNat d) : j < i := by
          rcases hd.2 with hlt | ⟨_, hlt⟩ <;> omega
        have hz := ((onLine_iff v y i).mp hon).1
        refine ⟨(hshows.plot (by omega) hlast (spriteColour_lt v y i n) hz).congr fun j x c => ?_,
          ⟨hpaid.exhausted, hpaid.rest⟩⟩
        rw [drawnBefore_succ_iff]
        refine or_congr_right (and_congr_right fun _ => ⟨?_, ?_⟩)
        · rintro ⟨rfl, rfl⟩
          have hx : ((column v i n).toNat : Int) = column v i n := by omega
          refine ⟨hx, (draws_at_column_iff hon hn hx).mpr ⟨by omega, hclear, rfl, ?_⟩⟩
          exact Nat.le_of_not_lt fun hover => hex (hpaid.exhausted.mpr hover)
        · rintro ⟨hx, hd⟩
          obtain ⟨_, _, hcolour, _⟩ := (draws_at_column_iff hon hn hx).mp hd
          exact ⟨by omega, hcolour⟩

/-- The first `n` pixels of a sprite on the line. -/
theorem SpriteLine.At.pixels {cfg : Params} {v : Video} {y i : Nat} {l : SpriteLine}
    (h : l.At cfg v y i 0 (costBefore cfg v y i 0)) (hon : onLine v y i = true) {n : Nat} (hn : n ≤ spriteWidth v i) :
    ((List.range n).foldl (fun l sx => v.spriteColumn cfg (v.sprite i) (v.sourceRow y i) sx l) l).At cfg v y i n
      (costBefore cfg v y i n) := by
  induction n with
  | zero => exact h
  | succ n ih =>
    rw [List.range_succ, List.foldl_append]
    exact (ih (Nat.le_of_succ_le hn)).pixel hon hn

/-! ### One sprite after the other (the outer loop of R443) -/

/-- Before the first pixel of a sprite are the pixels of the sprites before it. -/
theorem drawnBefore_zero_iff (cfg : Params) (v : Video) (y i j x c : Nat) :
    DrawnBefore cfg v y i 0 j x c ↔ draws cfg v y j x c ∧ j < i := by
  refine and_congr_right fun ⟨_, _, _, sx, _, hcol, _⟩ => or_iff_left ?_
  rintro ⟨rfl, hlt⟩
  simp only [column] at hcol hlt
  omega

/-- The pixels before the next sprite are those before the end of this one. -/
theorem drawnBefore_width_iff (cfg : Params) (v : Video) (y i j x c : Nat) :
    DrawnBefore cfg v y i (spriteWidth v i) j x c ↔ DrawnBefore cfg v y (i + 1) 0 j x c := by
  rw [drawnBefore_zero_iff]
  refine and_congr_right fun ⟨_, _, _, sx, hsx, hcol, _⟩ => ⟨fun h => by omega, fun h => ?_⟩
  rcases Nat.lt_succ_iff_lt_or_eq.mp h with hlt | rfl
  · exact .inl hlt
  · refine .inr ⟨rfl, ?_⟩
    simp only [column] at hcol ⊢
    omega

theorem drawnBefore_next_of_not_drawn {cfg : Params} {v : Video} {y i : Nat}
    (h : ∀ x c : Nat, ¬draws cfg v y i x c) (j x c : Nat) :
    DrawnBefore cfg v y i 0 j x c ↔ DrawnBefore cfg v y (i + 1) 0 j x c := by
  rw [drawnBefore_zero_iff, drawnBefore_zero_iff]
  refine and_congr_right fun hd => ⟨Nat.lt_succ_of_lt, fun hlt => ?_⟩
  refine Nat.lt_of_le_of_ne (Nat.le_of_lt_succ hlt) ?_
  rintro rfl
  exact h x c hd

/-- The outer loop of R443 on numbers. -/
theorem Video.spriteRow_eq (cfg : Params) (v : Video) (y i : Nat) (l : SpriteLine) :
    v.spriteRow cfg y l i =
      let m := l.charge cfg.spriteLookupCost
      if m.exhausted = true ∨ ¬onLine v y i = true then m
      else (List.range (spriteWidth v i)).foldl
        (fun l sx => v.spriteColumn cfg (v.sprite i) (v.sourceRow y i) sx l) m := by
  have hskip : (spriteZ v i = 0 ∨ (y : Int) < spriteY v i ∨ (y : Int) ≥ spriteY v i + spriteHeight v i) ↔
      ¬onLine v y i = true := by
    rw [onLine_iff]
    omega
  simp only [Video.spriteRow, v.sprite_z, v.sprite_y, v.sprite_height, v.sprite_width, hskip]
  simp only [Video.sourceRow, v.sprite_y, v.sprite_height]

/-- One sprite of the line. -/
theorem SpriteLine.At.sprite {cfg : Params} {v : Video} {y i : Nat} {l : SpriteLine}
    (h : l.At cfg v y i 0 (spritesCost cfg v y i)) :
    (v.spriteRow cfg y l i).At cfg v y (i + 1) 0 (spritesCost cfg v y (i + 1)) := by
  rw [Video.spriteRow_eq, spritesCost_succ]
  have hshows := h.shows.of_eq (l.charge_cells cfg.spriteLookupCost) (l.charge_collisions _)
  have hpaid := h.paid.charge cfg.spriteLookupCost
  generalize l.charge cfg.spriteLookupCost = m at hshows hpaid
  by_cases hex : m.exhausted = true
  · simp only [if_pos (Or.inl hex)]
    refine ⟨hshows.congr (drawnBefore_next_of_not_drawn fun x c hd => ?_),
      hpaid.of_exhausted hex (Nat.le_add_right _ _)⟩
    obtain ⟨_, _, _, _, _, _, _, hcost⟩ := hd
    have hover := hpaid.exhausted.mp hex
    omega
  · by_cases hon : onLine v y i = true
    · simp only [if_neg (not_or.mpr ⟨hex, not_not.mpr hon⟩), if_pos hon]
      have hall := SpriteLine.At.pixels ⟨hshows, hpaid⟩ hon (Nat.le_refl _)
      exact ⟨hall.shows.congr (drawnBefore_width_iff cfg v y i), hall.paid⟩
    · simp only [if_pos (Or.inr hon), if_neg hon, Nat.add_zero]
      exact ⟨hshows.congr (drawnBefore_next_of_not_drawn fun x c hd => hon hd.1), hpaid⟩

/-- The line after the first `n` sprites. -/
theorem Video.sprites_at (cfg : Params) (v : Video) (y n : Nat) :
    ((List.range n).foldl (v.spriteRow cfg y)
      { budget := cfg.spriteBudget
        exhausted := false
        cells := List.replicate cfg.screenWidth SpriteCell.clear
        collisions := v.spriteCollisions }).At cfg v y n 0 (spritesCost cfg v y n) := by
  induction n with
  | zero =>
    have hnone (j x c : Nat) : ¬DrawnBefore cfg v y 0 0 j x c := fun h =>
      Nat.not_lt_zero _ ((drawnBefore_zero_iff cfg v y 0 j x c).mp h).2
    refine ⟨SpriteLine.Shows.congr ⟨fun k => ?_, fun x hx => ?_⟩ fun j x c => (iff_false_intro (hnone j x c)).symm,
      ⟨iff_of_false Bool.false_ne_true (Nat.not_lt_zero _), fun _ => rfl⟩⟩
    · exact (or_iff_left fun ⟨_, _, _, _, _, _, h, _⟩ => h).symm
    · exact ⟨_, List.getElem?_replicate_of_lt hx, SpriteCell.clear_shows v⟩
  | succ n ih =>
    rw [List.range_succ, List.foldl_append]
    exact ih.sprite

theorem Video.renderSpriteLine_at (cfg : Params) (v : Video) (y : Nat) :
    (v.renderSpriteLine cfg y).At cfg v y 128 0 (spritesCost cfg v y 128) :=
  v.sprites_at cfg y 128

/-- The whole sprite line shows the pixels drawn by the 128 sprites. -/
theorem Video.renderSpriteLine_shows (cfg : Params) (v : Video) (y : Nat) :
    (v.renderSpriteLine cfg y).Shows cfg v fun i x c => i < 128 ∧ draws cfg v y i x c :=
  (v.renderSpriteLine_at cfg y).shows.congr fun i x c => (drawnBefore_zero_iff cfg v y 128 i x c).trans and_comm

theorem Video.renderSpriteLine_exhausted (cfg : Params) (v : Video) (y : Nat) :
    (v.renderSpriteLine cfg y).exhausted = decide (cfg.spriteBudget < spritesCost cfg v y 128) := by
  rw [Bool.eq_iff_iff, decide_eq_true_iff]
  exact (v.renderSpriteLine_at cfg y).paid.exhausted

/-! ### The report at the end of the screen, and the lines that latch nothing (R437, R447, R481) -/

theorem Video.nextLine_of_ne {v : Video} {cfg : Params} (h : v.scanY + 1 ≠ cfg.scanHeight) :
    v.nextLine cfg = Video.effLine { v with scanY := v.scanY + 1 } cfg := by
  rw [Video.nextLine, Video.nextScanY, if_neg h]
  rfl

theorem Video.composeLine_spriteCollisions (cfg : Params) (v : Video) (eff : Nat) :
    (v.composeLine cfg eff).spriteCollisions =
      if v.outMode = 0 ∨ v.lineIsBorder eff = true ∨ ¬v.spritesEnabled = true then v.spriteCollisions
      else (v.renderSpriteLine cfg (v.ySrc eff)).collisions := by
  simp only [Video.composeLine, Video.spriteLineOf]
  split <;> rfl

/-- Settles O58: the report by the equation of the line step, the sprite line by what it shows after 128 sprites, the
latched mask by the sprite line that is composed. -/
theorem collisionsAreReportedAtTheEndOfTheScreen : Obligations.CollisionsAreReportedAtTheEndOfTheScreen := by
  unfold Obligations.CollisionsAreReportedAtTheEndOfTheScreen
  refine ⟨fun cfg v hy heff => ?report, fun cfg v y => ⟨_, rfl, v.renderSpriteLine_exhausted cfg y, ?_, ?_⟩,
    fun cfg v eff => ?latch⟩
  case report =>
    rw [← Video.nextLine_of_ne hy] at heff
    have hbit : testBit (v.lineStep cfg).isr 2 = (testBit v.isr 2 || v.reportsCollisions cfg) := by
      rw [testBit, testBit, v.lineStep_getLsbD_isr cfg (by omega)]
      simp
    have hreport := v.reportsCollisions_iff cfg
    rw [hbit, v.lineStep_highNibble_isr]
    refine ⟨?_, fun hien hmask => ?_, fun hnot => ?_⟩
    · rw [Video.lineStep_eq]
      simp only [heff, Int.lt_irrefl, and_false, if_false, if_true]
    · simp [hreport.mpr ⟨heff, hien, hmask⟩]
    · have hquiet : v.reportsCollisions cfg = false := by
        rw [Bool.eq_false_iff, Ne, hreport]
        rintro ⟨_, hien, hmask⟩
        rcases hnot with h | h
        · exact Bool.false_ne_true (h.symm.trans hien)
        · exact hmask h
      simp [hquiet]
  case latch =>
    rw [Video.composeLine_spriteCollisions, Video.outMode_eq, Video.ySrc_eq]
    refine if_congr (or_congr_right ?_) rfl rfl
    rw [Video.lineIsBorder_iff, or_assoc, Bool.not_eq_true]
    rfl
  · intro k _
    rw [(v.renderSpriteLine_shows cfg y).collisions]
    refine or_congr_right ⟨?_, ?_⟩
    · rintro ⟨i, j, x, c, d, hlt, ⟨_, hi⟩, ⟨hj, hd⟩, hk, hk'⟩
      exact ⟨i, j, x, c, d, hlt, hj, hi, hd, hk, hk'⟩
    · rintro ⟨i, j, x, c, d, hlt, hj, hi, hd, hk, hk'⟩
      exact ⟨i, j, x, c, d, hlt, ⟨Nat.lt_trans hlt hj, hi⟩, ⟨hj, hd⟩, hk, hk'⟩
  · intro x hx
    obtain ⟨cell, hget, hcell⟩ := (v.renderSpriteLine_shows cfg y).cells x hx
    refine ⟨cell, hget, fun hnone => hcell.clear fun i c h => hnone i c h.1 h.2, fun i c hi hd => ?_, fun hsome => ?_⟩
    · refine ⟨hcell.greatest i c ⟨hi, hd⟩, fun hz hfirst => hcell.colour i c ⟨hi, hd⟩ hz fun j d hlt hj => ?_⟩
      exact hfirst j d hlt hj.2
    · simpa only [and_assoc] using hcell.attained (by simpa only [and_assoc] using hsome)

end Sys2Proof.Machine

/-! `exec(budget)` (`60_exceptions.md` R558): one CPU step answers, leaves `GOAL` alone and, where every cost is positive
and small, brings `CYCLES` nearer to `GOAL` or just past it; the loop by induction on the steps it may take. -/

namespace Sys2Proof.Machine

open Sys2Proof.Config Sys2Proof.Claims

/-! ### What the fetch leaves alone (`30_encoding.md` R140, R144) -/

@[simp] theorem fetch8_cpu (s : State) : (fetch8 s).2.cpu = { s.cpu with pc := s.cpu.pc + 1 } := by
  simp only [fetch8, State.setPc_cpu, memRead_cpu]

theorem fetchOperands_cpu (n : Nat) (s : State) : ∃ pc, (fetchOperands n s).2.cpu = { s.cpu with pc := pc } := by
  unfold fetchOperands
  split
  · exact ⟨s.cpu.pc, rfl⟩
  · dsimp only
    split
    · exact ⟨_, fetch8_cpu s⟩
    · exact ⟨_, by rw [fetch8_cpu, fetch8_cpu]⟩

/-- A fetch moves `PC` and counts the instruction; the other registers of the CPU stay. -/
theorem fetchInstr_cpu (s : State) :
    ∃ pc, (fetchInstr s).2.cpu = { s.cpu with pc := pc, icount := s.cpu.icount + 1 } := by
  obtain ⟨pc, h⟩ := fetchOperands_cpu (opcodeLength (fetch8 s).1) (fetch8 s).2.countInstruction
  exact ⟨pc, by rw [fetchInstr, h, State.countInstruction_cpu, fetch8_cpu]⟩

/-- No access writes the parameters (`00_scope.md` R10). -/
theorem cpuClosed_cfg_eq (cfg : Params) : CpuClosed fun s => s.cfg = cfg where
  cpu _ _ h := h
  read a s h := (memRead_cfg a s).trans h
  write a v s h := (memWrite_cfg a v s).trans h

/-! ### No instruction writes `GOAL` (`10_state.md` R46) -/

/-- The result is a next state with the same `GOAL`. -/
def KeepsGoal (s : State) (r : Result) : Prop := ∃ t, r = .next t ∧ t.cpu.goal = s.cpu.goal

theorem keepsGoal_chargeOp {s u : State} (h : u.cpu.goal = s.cpu.goal) (op : Nat) (cross : Bool) :
    KeepsGoal s (.next (u.chargeOp op cross)) :=
  ⟨_, rfl, h⟩

@[simp] theorem Operand.read_cpu (o : Operand) (s : State) : (o.read s).2.cpu = s.cpu := by
  cases o with
  | imm v => rfl
  | mem m => exact memRead_cpu _ s

theorem keepsGoal_reading {f : Byte → State → State} (hf : ∀ v t, (f v t).cpu.goal = t.cpu.goal) (op : Nat)
    (o : Operand) (s : State) : KeepsGoal s (readingInstr op o f s) :=
  keepsGoal_chargeOp (by rw [hf, Operand.read_cpu]) op _

theorem keepsGoal_loadA (op : Nat) (o : Operand) (s : State) : KeepsGoal s (loadA op o s) :=
  keepsGoal_reading (fun _ _ => by rfl) op o s

theorem keepsGoal_loadX (op : Nat) (o : Operand) (s : State) : KeepsGoal s (loadX op o s) :=
  keepsGoal_reading (fun _ _ => by rfl) op o s

theorem keepsGoal_loadY (op : Nat) (o : Operand) (s : State) : KeepsGoal s (loadY op o s) :=
  keepsGoal_reading (fun _ _ => by rfl) op o s

theorem keepsGoal_combine (f : Byte → Byte → Byte) (op : Nat) (o : Operand) (s : State) :
    KeepsGoal s (combine f op o s) :=
  keepsGoal_reading (fun _ _ => by rfl) op o s

theorem keepsGoal_compareWith (reg : Byte) (op : Nat) (o : Operand) (s : State) :
    KeepsGoal s (compareWith reg op o s) :=
  keepsGoal_reading (fun _ _ => by rfl) op o s

theorem keepsGoal_accumulate (f : Byte → Byte → Flags → FlaggedByte) (op : Nat) (o : Operand) (s : State) :
    KeepsGoal s (accumulate f op o s) :=
  keepsGoal_reading (fun _ _ => by rfl) op o s

theorem keepsGoal_bitMemory (op : Nat) (m : AddrMode) (s : State) : KeepsGoal s (bitMemoryInstr op m s) :=
  keepsGoal_reading (fun _ _ => by rfl) op (.mem m) s

theorem keepsGoal_bitImmediate (op : Nat) (v : Byte) (s : State) : KeepsGoal s (bitImmediateInstr op v s) :=
  keepsGoal_reading (fun _ _ => by rfl) op (.imm v) s

theorem keepsGoal_storing (op : Nat) (m : AddrMode) (v : Byte) (s : State) :
    KeepsGoal s (storingInstr op m v s) :=
  keepsGoal_chargeOp (by rw [memWrite_cpu]) op _

theorem keepsGoal_modifying (op : Nat) (o : Target) (f : Byte → Flags → FlaggedByte) (s : State) :
    KeepsGoal s (modifyingInstr op o f s) := by
  cases o with
  | acc => exact keepsGoal_chargeOp rfl op _
  | mem m => exact keepsGoal_chargeOp (by simp only [State.setP_cpu, memWrite_cpu, memRead_cpu]) op _

theorem keepsGoal_bitModify (op : Nat) (f : Byte → Byte) (z : Byte) (s : State) :
    KeepsGoal s (bitModifyInstr op f z s) :=
  keepsGoal_modifying op (.mem (.zp z)) _ s

theorem keepsGoal_implied {f : State → State} {s : State} (h : (f s).cpu.goal = s.cpu.goal) (op : Nat) :
    KeepsGoal s (impliedInstr op f s) :=
  keepsGoal_chargeOp h op _

theorem keepsGoal_unmapped (op : Nat) (s : State) : KeepsGoal s (unmappedInstr op s) := keepsGoal_implied rfl op

theorem keepsGoal_branch {s u : State} (h : u.cpu.goal = s.cpu.goal) (op : Nat) (r : Byte) (taken : Bool) :
    KeepsGoal s (branchInstr op r taken u) := by
  cases taken <;> exact ⟨_, rfl, h⟩

theorem keepsGoal_bitBranch (op n : Nat) (whenSet : Bool) (z r : Byte) (s : State) :
    KeepsGoal s (bitBranchInstr op n whenSet z r s) :=
  keepsGoal_branch (by rw [memRead_cpu]) op r _

theorem keepsGoal_jumpIndirect (op : Nat) (p : Word) (s : State) : KeepsGoal s (jumpIndirect op p s) :=
  keepsGoal_chargeOp (by rw [State.setPc_cpu, read16_cpu]) op _

theorem push8_goal (v : Byte) (s : State) : (push8 v s).cpu.goal = s.cpu.goal := by rw [push8_eq]

theorem pull8_goal (s : State) : (pull8 s).2.cpu.goal = s.cpu.goal := by
  rw [pull8_eq]
  rfl

theorem callSubroutine_goal (a : Word) (s : State) : (callSubroutine a s).cpu.goal = s.cpu.goal := by
  rw [callSubroutine, push16_eq]
  rfl

theorem returnSubroutine_goal (s : State) : (returnSubroutine s).cpu.goal = s.cpu.goal := by
  rw [returnSubroutine, pull16_eq]
  rfl

theorem takeTrap_goal (k : Trap) (s : State) : (takeTrap k s).cpu.goal = s.cpu.goal := by
  rw [takeTrap_eq]
  cases k <;> rfl

theorem returnFromTrap_goal (s : State) : (returnFromTrap s).cpu.goal = s.cpu.goal := by rw [returnFromTrap_eq]

/-- Every instruction answers a next state and leaves `GOAL` alone, by its form. -/
theorem exec_keepsGoal (i : Instr) (s : State) : KeepsGoal s (exec i s) := by
  cases i <;> simp only [exec]
  case unmappedDB =>
    show KeepsGoal s (execUnmappedDB s)
    rw [execUnmappedDB]
    split
    · exact keepsGoal_unmapped 0xDB s
    · exact ⟨_, rfl, rfl⟩
  case ldaIndX | ldaZp | ldaImm | ldaAbs | ldaIndY | ldaIzp | ldaZpX | ldaAbsY | ldaAbsX =>
    exact keepsGoal_loadA _ _ s
  case ldxImm | ldxZp | ldxAbs | ldxZpY | ldxAbsY => exact keepsGoal_loadX _ _ s
  case ldyImm | ldyZp | ldyAbs | ldyZpX | ldyAbsX => exact keepsGoal_loadY _ _ s
  case andIndX | andZp | andImm | andAbs | andIndY | andIzp | andZpX | andAbsY | andAbsX |
      oraIndX | oraZp | oraImm | oraAbs | oraIndY | oraIzp | oraZpX | oraAbsY | oraAbsX |
      eorIndX | eorZp | eorImm | eorAbs | eorIndY | eorIzp | eorZpX | eorAbsY | eorAbsX =>
    exact keepsGoal_combine _ _ _ s
  case cmpIndX | cmpZp | cmpImm | cmpAbs | cmpIndY | cmpIzp | cmpZpX | cmpAbsY | cmpAbsX |
      cpxImm | cpxZp | cpxAbs | cpyImm | cpyZp | cpyAbs =>
    exact keepsGoal_compareWith _ _ _ s
  case adcIndX | adcZp | adcImm | adcAbs | adcIndY | adcIzp | adcZpX | adcAbsY | adcAbsX |
      sbcIndX | sbcZp | sbcImm | sbcAbs | sbcIndY | sbcIzp | sbcZpX | sbcAbsY | sbcAbsX =>
    exact keepsGoal_accumulate _ _ _ s
  case bitZp | bitAbs | bitZpX | bitAbsX => exact keepsGoal_bitMemory _ _ s
  case bitImm => exact keepsGoal_bitImmediate _ _ s
  case staIndX | staZp | staAbs | staIndY | staIzp | staZpX | staAbsY | staAbsX | stxZp | stxAbs | stxZpY |
      styZp | styAbs | styZpX | stzZp | stzZpX | stzAbs | stzAbsX =>
    exact keepsGoal_storing _ _ _ s
  case incAcc | incZp | incAbs | incZpX | incAbsX | decAcc | decZp | decAbs | decZpX | decAbsX |
      aslAcc | aslZp | aslAbs | aslZpX | aslAbsX | lsrAcc | lsrZp | lsrAbs | lsrZpX | lsrAbsX |
      rolAcc | rolZp | rolAbs | rolZpX | rolAbsX | rorAcc | rorZp | rorAbs | rorZpX | rorAbsX |
      trbZp | trbAbs | tsbZp | tsbAbs =>
    exact keepsGoal_modifying _ _ _ s
  case rmb0 | rmb1 | rmb2 | rmb3 | rmb4 | rmb5 | rmb6 | rmb7 |
      smb0 | smb1 | smb2 | smb3 | smb4 | smb5 | smb6 | smb7 =>
    exact keepsGoal_bitModify _ _ _ s
  case bcc | bcs | beq | bne | bmi | bpl | bvc | bvs | bra => exact keepsGoal_branch (by rfl) _ _ _
  case bbr0 | bbr1 | bbr2 | bbr3 | bbr4 | bbr5 | bbr6 | bbr7 |
      bbs0 | bbs1 | bbs2 | bbs3 | bbs4 | bbs5 | bbs6 | bbs7 =>
    exact keepsGoal_bitBranch _ _ _ _ _ s
  case jmpInd | jmpAix => exact keepsGoal_jumpIndirect _ _ s
  case jsr a => exact keepsGoal_implied (callSubroutine_goal a s) _
  case rts => exact keepsGoal_implied (returnSubroutine_goal s) _
  case brk => exact keepsGoal_implied (takeTrap_goal .brk s) _
  case rti => exact keepsGoal_implied (returnFromTrap_goal s) _
  case pha | php | phx | phy => exact keepsGoal_implied (push8_goal _ s) _
  case pla | plx | ply | plp => exact keepsGoal_implied (pull8_goal s) _
  case inx | iny | dex | dey | jmpAbs | clc | sec | cli | sei | cld | sed | clv | tax | tay | txa | tya | tsx | txs |
      nop | wai =>
    exact keepsGoal_implied (by rfl) _
  -- the unmapped opcodes that are left
  all_goals exact keepsGoal_unmapped _ s

/-- The CPU step answers a next state and leaves `GOAL` alone. -/
theorem cpuStepWith_keepsGoal (s : State) : KeepsGoal s (cpuStepWith exec s) := by
  cases hidle : s.idle with
  | true =>
    rw [cpuStepWith, if_pos hidle]
    exact ⟨_, rfl, rfl⟩
  | false =>
    rw [cpuStepWith_of_not_idle hidle]
    obtain ⟨t, ht, hgoal⟩ := exec_keepsGoal (fetchInstr s).1 (fetchInstr s).2
    obtain ⟨pc, hcpu⟩ := fetchInstr_cpu s
    exact ⟨t, ht, by rw [hgoal, hcpu]⟩

/-! ### A CPU step under positive costs (`30_encoding.md` R165 to R167, `49_bit_system.md` R342) -/

/-- One opcode alone may stop the CPU instead of charging its cost. -/
theorem eq_unmappedDB_of_opcodeOf {i : Instr} (h : opcodeOf i = 0xDB) : i = .unmappedDB := by
  cases i
  case unmappedDB => rfl
  all_goals exact absurd (congrArg BitVec.toNat h) (Nat.ne_of_beq_eq_false rfl)

/-- An instruction charges its opcode, or it stops the CPU. -/
theorem exec_charges_or_stops (i : Instr) (s : State) :
    Charges s (opcodeOf i).toNat (exec i s) ∨ exec i s = stopCpu s := by
  by_cases hdb : opcodeOf i = 0xDB → s.cfg.opcodeDb = .nop
  · exact .inl (exec_charges i s hdb)
  · obtain ⟨hop, hstop⟩ := Classical.not_imp.mp hdb
    obtain rfl := eq_unmappedDB_of_opcodeOf hop
    right
    show execUnmappedDB s = stopCpu s
    rw [execUnmappedDB]
    split
    · contradiction
    · rfl

/-- `CYCLES` of the second state is a positive number below 2^30 ahead of that of the first, modulo 2^32. -/
def CyclesAdvance (s t : State) : Prop :=
  ∃ n, 1 ≤ n ∧ n < 2 ^ 30 ∧ t.cpu.cycles = s.cpu.cycles + BitVec.ofNat 32 n

theorem exec_cyclesAdvance {i : Instr} {s t : State} (hcost : costsBounded s.cfg) (ht : exec i s = .next t) :
    CyclesAdvance s t := by
  obtain ⟨hbase, hdecimal, -, -⟩ := hcost
  rcases exec_charges_or_stops i s with ⟨u, extra, hu, hextra, hcycles⟩ | hstop
  · cases hu.symm.trans ht
    obtain ⟨hpos, hlt⟩ := hbase (opcodeOf i).toNat (opcodeOf i).isLt
    exact ⟨_, by omega, by omega, hcycles⟩
  · cases hstop.symm.trans ht
    exact ⟨3, by decide, by decide, rfl⟩

/-- With bounded costs the CPU step charges a positive number of cycles and keeps `GOAL` and the parameters. -/
theorem cpuStepWith_cyclesAdvance {s : State} (hcost : costsBounded s.cfg) :
    ∃ t, cpuStepWith exec s = .next t ∧ t.cfg = s.cfg ∧ t.cpu.goal = s.cpu.goal ∧ CyclesAdvance s t := by
  obtain ⟨t, ht, hgoal⟩ := cpuStepWith_keepsGoal s
  refine ⟨t, ht, ?_⟩
  cases hidle : s.idle with
  | true =>
    obtain ⟨-, -, hpos, hlt⟩ := hcost
    rw [cpuStepWith, if_pos hidle] at ht
    cases ht
    exact ⟨rfl, hgoal, _, hpos, by omega, rfl⟩
  | false =>
    rw [cpuStepWith_of_not_idle hidle] at ht
    have hcfg : (fetchInstr s).2.cfg = s.cfg := (cpuClosed_cfg_eq s.cfg).fetchInstr rfl
    obtain ⟨pc, hcpu⟩ := fetchInstr_cpu s
    obtain ⟨u, hu, hucfg⟩ := (cpuClosed_cfg_eq s.cfg).exec (fetchInstr s).1 hcfg
    cases hu.symm.trans ht
    obtain ⟨n, hpos, hlt, hcycles⟩ := exec_cyclesAdvance (by rwa [hcfg]) ht
    exact ⟨hucfg, hgoal, n, hpos, hlt, by rw [hcycles, hcpu]⟩

/-! ### The loop of `exec(budget)` (R558) -/

/-- `(GOAL - CYCLES) mod 2^32`. -/
def cyclesToGoal (s : State) : Nat := (s.cpu.goal - s.cpu.cycles).toNat

theorem goalAhead_iff (s : State) : goalAhead s = true ↔ 1 ≤ cyclesToGoal s ∧ cyclesToGoal s < 2 ^ 31 :=
  decide_eq_true_iff

/-- While the goal stays ahead a charge brings it nearer; a charge too small to wrap cannot jump back behind it. -/
theorem cyclesToGoal_lt_of_cyclesAdvance {s t : State} (hs : goalAhead s = true) (ht : goalAhead t = true)
    (hgoal : t.cpu.goal = s.cpu.goal) (h : CyclesAdvance s t) : cyclesToGoal t < cyclesToGoal s := by
  obtain ⟨n, hpos, hlt, hcycles⟩ := h
  obtain ⟨-, hs⟩ := (goalAhead_iff s).mp hs
  obtain ⟨-, ht⟩ := (goalAhead_iff t).mp ht
  have hn : (BitVec.ofNat 32 n).toNat = n := Nat.mod_eq_of_lt (by omega)
  unfold cyclesToGoal at *
  rw [hgoal, hcycles] at ht ⊢
  bv_omega

theorem execLoopWith_of_not_ahead {s : State} (h : goalAhead s = false) (run : Instr → State → Result)
    (steps : Nat) : execLoopWith run steps s = .next s := by
  unfold execLoopWith
  exact if_neg (Bool.eq_false_iff.mp h)

theorem execLoopWith_zero_of_ahead {s : State} (h : goalAhead s = true) (run : Instr → State → Result) :
    execLoopWith run 0 s = .refused .budgetUnfinished := by
  rw [execLoopWith, if_pos h]

theorem execLoopWith_succ_of_ahead {run : Instr → State → Result} {s t : State} (h : goalAhead s = true)
    (ht : cpuStepWith run s = .next t) (steps : Nat) :
    execLoopWith run (steps + 1) s = execLoopWith run steps t := by
  rw [execLoopWith, if_pos h, ht]

/-- The loop has not ended, or it ends with the `GOAL` it began with. -/
theorem execLoopWith_unfinished_or_keepsGoal (steps : Nat) (s : State) :
    execLoopWith exec steps s = .refused .budgetUnfinished ∨ KeepsGoal s (execLoopWith exec steps s) := by
  induction steps generalizing s with
  | zero =>
    cases hs : goalAhead s with
    | true => exact .inl (execLoopWith_zero_of_ahead hs exec)
    | false => exact .inr ⟨s, execLoopWith_of_not_ahead hs exec 0, rfl⟩
  | succ n ih =>
    cases hs : goalAhead s with
    | true =>
      obtain ⟨t, ht, hgoal⟩ := cpuStepWith_keepsGoal s
      rw [execLoopWith_succ_of_ahead hs ht]
      exact (ih t).imp_right fun ⟨u, hu, h⟩ => ⟨u, hu, h.trans hgoal⟩
    | false => exact .inr ⟨s, execLoopWith_of_not_ahead hs exec _, rfl⟩

/-- With bounded costs as many steps as the goal is cycles ahead are enough. -/
theorem execLoopWith_ends_of_costsBounded {steps : Nat} {s : State} (hcost : costsBounded s.cfg)
    (h : goalAhead s = true → cyclesToGoal s ≤ steps) : ∃ t, execLoopWith exec steps s = .next t := by
  induction steps generalizing s with
  | zero =>
    cases hs : goalAhead s with
    | true =>
      have hpos := ((goalAhead_iff s).mp hs).1
      have hzero := h hs
      omega
    | false => exact ⟨s, execLoopWith_of_not_ahead hs exec 0⟩
  | succ n ih =>
    cases hs : goalAhead s with
    | true =>
      obtain ⟨t, ht, hcfg, hgoal, hadvance⟩ := cpuStepWith_cyclesAdvance hcost
      rw [execLoopWith_succ_of_ahead hs ht]
      refine ih (by rwa [hcfg]) fun hahead => ?_
      have hlt := cyclesToGoal_lt_of_cyclesAdvance hs hahead hgoal hadvance
      have hle := h hs
      omega
    | false => exact ⟨s, execLoopWith_of_not_ahead hs exec _⟩

/-! ### `exec(budget)` (R558) -/

theorem execBudgetWithin_of_illegal {s : State} (h : s.cfg.wellFormed = false) (steps budget : Nat) :
    execBudgetWithin steps budget s = .refused .invalidConfiguration :=
  if_neg (Bool.eq_false_iff.mp h)

theorem execBudgetWithin_of_wait {s : State} (hcfg : s.cfg.wellFormed = true) (h : s.cpu.wait = true)
    (steps budget : Nat) :
    execBudgetWithin steps budget s = .next ((s.charge budget).setGoal (s.charge budget).cpu.cycles) := by
  rw [execBudgetWithin, execBudgetWithinWith, if_pos hcfg, if_pos h]

theorem execBudgetWithin_of_not_wait {s : State} (hcfg : s.cfg.wellFormed = true) (h : s.cpu.wait = false)
    (steps budget : Nat) : execBudgetWithin steps budget s = execLoopWith exec steps (s.raiseGoal budget) := by
  rw [execBudgetWithin, execBudgetWithinWith, if_pos hcfg, if_neg (Bool.eq_false_iff.mp h)]

/-- The evaluation of `exec(budget)` is the bounded one, with one step for each cycle to the goal. -/
theorem execBudget_eq (budget : Nat) (s : State) :
    execBudget budget s = execBudgetWithin (cyclesToGoal (s.raiseGoal budget)) budget s := rfl

/-- Where the bounded loop has not ended, it is refused by that name; where it has, the goal is reached and more steps
change nothing. -/
theorem execLoopWith_raiseGoal_cases (steps budget : Nat) (s : State) :
    execLoopWith exec steps (s.raiseGoal budget) = .refused .budgetUnfinished ∨
      ∃ t, execLoopWith exec steps (s.raiseGoal budget) = .next t ∧
        t.cpu.goal = s.cpu.goal + BitVec.ofNat 32 budget ∧ goalAhead t = false ∧
        ∀ more, execLoopWith exec (steps + more) (s.raiseGoal budget) = .next t := by
  refine (execLoopWith_unfinished_or_keepsGoal steps (s.raiseGoal budget)).imp_right ?_
  rintro ⟨t, ht, hgoal⟩
  obtain ⟨hreached, hmore⟩ := execLoopWith_ends ht
  exact ⟨t, ht, hgoal, hreached, hmore⟩

/-- Settles O50: illegal parameters and the waiting CPU by the two equations, the end of the loop by the cycles left to
the goal, its goal and its independence of the bound by induction on the steps. -/
theorem execBudgetReachesItsGoal : Obligations.ExecBudgetReachesItsGoal := by
  unfold Obligations.ExecBudgetReachesItsGoal
  intro s budget
  refine ⟨fun hcfg steps => ?illegal, fun hcfg hwait => ?waiting, fun hcfg hwait hcost => ?ends,
    fun hcfg hwait steps => ?bounded⟩
  case illegal =>
    rw [execBudget_eq]
    exact ⟨execBudgetWithin_of_illegal hcfg _ _, execBudgetWithin_of_illegal hcfg _ _⟩
  case waiting =>
    rw [execBudget_eq, execBudgetWithin_of_wait hcfg hwait]
    rfl
  case ends =>
    rw [execBudget_eq, execBudgetWithin_of_not_wait hcfg hwait]
    obtain ⟨t, ht⟩ := execLoopWith_ends_of_costsBounded (s := s.raiseGoal budget) hcost fun _ => Nat.le_refl _
    rcases execLoopWith_raiseGoal_cases _ budget s with hopen | ⟨u, hu, hgoal, hreached, -⟩
    · cases hopen.symm.trans ht
    · exact ⟨u, hu, hgoal, hreached⟩
  case bounded =>
    simp only [execBudgetWithin_of_not_wait hcfg hwait]
    exact execLoopWith_raiseGoal_cases steps budget s

end Sys2Proof.Machine

/-! Decoder and encoder undo each other (`30_encoding.md` R142 to R145, R168): the opcode map is inspected once from the
side of the opcodes and once from the side of the instructions, and both round trips follow. -/

namespace Sys2Proof.Machine

open Sys2Proof.Config Sys2Proof.Claims

/-! ### The decoder by the length of the opcode (R142) -/

/-- The decoder takes as many operand bytes as the opcode asks for and leaves the rest. -/
theorem decode_append {op : Byte} {operands : List Byte} (h : operands.length + 1 = opcodeLength op)
    (rest : List Byte) :
    decode (op :: operands ++ rest) = .ok (decodeOp op (operands.getD 0 0) (operands.getD 1 0)) rest := by
  obtain ⟨-, hle⟩ := opcodeLength_pos_le_three op
  obtain _ | ⟨b, _ | ⟨c, _ | ⟨d, operands⟩⟩⟩ := operands
  case nil | cons.nil | cons.cons.nil => simp [decode, ← h]
  case cons.cons.cons => simp only [List.length_cons] at h; omega

/-- Bytes that decode are an opcode, the operand bytes it asks for, and the rest. -/
theorem decode_ok {bytes rest : List Byte} {i : Instr} (h : decode bytes = .ok i rest) :
    ∃ op operands, bytes = op :: operands ++ rest ∧ operands.length + 1 = opcodeLength op ∧
      i = decodeOp op (operands.getD 0 0) (operands.getD 1 0) := by
  cases bytes with
  | nil => cases h
  | cons op tail =>
    have hshort : opcodeLength op ≤ tail.length + 1 := (decode_cons_ok_iff op tail).mp ⟨i, rest, h⟩
    have hpos := (opcodeLength_pos_le_three op).1
    have hlen : (tail.take (opcodeLength op - 1)).length + 1 = opcodeLength op := by
      rw [List.length_take]
      omega
    have hsplit : tail.take (opcodeLength op - 1) ++ tail.drop (opcodeLength op - 1) = tail :=
      List.take_append_drop _ _
    have hdecode := decode_append hlen (tail.drop (opcodeLength op - 1))
    rw [List.cons_append, hsplit, h] at hdecode
    cases hdecode
    exact ⟨op, _, by rw [List.cons_append, hsplit], hlen, rfl⟩

/-! ### The opcode map from the side of the opcodes (R145, R168) -/

/-- How a mode writes its operand: a word goes through `wordOf` and comes apart again, low byte first (R143). -/
def Mode.operandBytes (m : Mode) (b c : Byte) : List Byte :=
  match m with
  | .imp | .acc => []
  | .imm | .zp | .zpx | .zpy | .indx | .indy | .izp | .rel => [b]
  | .abs | .absx | .absy | .ind | .aix => [loByte (wordOf c b), hiByte (wordOf c b)]
  | .zprel => [b, c]

theorem Mode.operandBytes_eq (m : Mode) (b c : Byte) : m.operandBytes b c = [b, c].take (m.bytes - 1) := by
  cases m
  case abs | absx | absy | ind | aix => simp only [operandBytes, loByte_wordOf, hiByte_wordOf]; rfl
  all_goals rfl

theorem opcodeMap_length : opcodeMap.length = 256 := by
  simp only [opcodeMap, List.length_append]
  rfl

/-- Sixteen opcodes at a time, what the opcode map builds encodes as the opcode and the operand of its mode. -/
theorem opcodeMap_row_encode : ∀ k < 16,
    ((opcodeMap.drop (16 * k)).take 16).map (fun f b c => encode (f b c)) =
      ((modeTable.zipIdx.drop (16 * k)).take 16).map fun p b c => BitVec.ofNat 8 p.2 :: p.1.operandBytes b c := by
  intro k hk
  interval_cases k
  all_goals rfl

theorem encode_decodeOp (op b c : Byte) : encode (decodeOp op b c) = op :: (opcodeMode op).operandBytes b c := by
  have hop : op.toNat < 256 := op.isLt
  have hmap : op.toNat < opcodeMap.length := opcodeMap_length ▸ hop
  have hmode : op.toNat < modeTable.length := modeTable_length ▸ hop
  have hcol : op.toNat % 16 < 16 := Nat.mod_lt _ (by decide)
  have hrow := congrArg (fun row => row[op.toNat % 16]?) (opcodeMap_row_encode (op.toNat / 16) (by omega))
  simp only [List.getElem?_map, List.getElem?_take_of_lt hcol, List.getElem?_drop, Nat.div_add_mod,
    List.getElem?_zipIdx, List.getElem?_eq_getElem hmap, List.getElem?_eq_getElem hmode, Option.map_some,
    Option.some.injEq, Nat.zero_add, BitVec.ofNat_toNat, BitVec.setWidth_eq] at hrow
  rw [decodeOp, opcodeMode, List.getD_eq_getElem _ _ hmap, List.getD_eq_getElem _ _ hmode]
  exact congrFun (congrFun hrow b) c

/-! ### The opcode map from the side of the instructions (R168) -/

/-- The opcode map, sixteen opcodes a row. -/
def opcodeRows : List (List (Byte → Byte → Instr)) :=
  [opcodeRow0, opcodeRow1, opcodeRow2, opcodeRow3, opcodeRow4, opcodeRow5, opcodeRow6, opcodeRow7, opcodeRow8,
    opcodeRow9, opcodeRowA, opcodeRowB, opcodeRowC, opcodeRowD, opcodeRowE, opcodeRowF]

theorem opcodeMap_eq_flatten : opcodeMap = opcodeRows.flatten := by
  simp only [opcodeMap, opcodeRows, List.flatten_cons, List.flatten_nil, List.append_nil, List.append_assoc]

theorem length_of_mem_opcodeRows : ∀ row ∈ opcodeRows, row.length = 16 := by
  intro row h
  simp only [opcodeRows, List.mem_cons, List.not_mem_nil, or_false] at h
  rcases h with rfl | rfl | rfl | rfl | rfl | rfl | rfl | rfl | rfl | rfl | rfl | rfl | rfl | rfl | rfl | rfl <;> rfl

/-- In rows of one length `n`, entry `n * k + i` is entry `i` of row `k`. -/
theorem flatten_getElem?_of_length {α : Type} {n i : Nat} (hi : i < n) {rows : List (List α)}
    (h : ∀ row ∈ rows, row.length = n) (k : Nat) : rows.flatten[n * k + i]? = rows[k]?.bind fun row => row[i]? := by
  induction rows generalizing k with
  | nil => rfl
  | cons row rows ih =>
    obtain ⟨hrow, hrows⟩ := List.forall_mem_cons.mp h
    rw [List.flatten_cons]
    cases k with
    | zero =>
      rw [Nat.mul_zero, Nat.zero_add, List.getElem?_append_left (by omega), List.getElem?_cons_zero, Option.bind_some]
    | succ k =>
      rw [List.getElem?_append_right (by rw [Nat.mul_succ]; omega), hrow, Nat.mul_succ, Nat.add_right_comm,
        Nat.add_sub_cancel, ih hrows, List.getElem?_cons_succ]

/-- The entry of an opcode stands in the row of its high nibble: looking it up there takes far fewer steps. -/
theorem decodeOp_eq_row (op b c : Byte) :
    decodeOp op b c = (opcodeRows.getD (op.toNat / 16) []).getD (op.toNat % 16) (fun _ _ => .nop) b c := by
  have hcol : op.toNat % 16 < 16 := Nat.mod_lt _ (by decide)
  have hentry := flatten_getElem?_of_length hcol length_of_mem_opcodeRows (op.toNat / 16)
  rw [Nat.div_add_mod, ← opcodeMap_eq_flatten] at hentry
  simp only [decodeOp, List.getD_eq_getElem?_getD, hentry]
  cases opcodeRows[op.toNat / 16]? <;> rfl

/-- The opcode map gives an instruction back from its encoding; a word operand is put together again. -/
theorem decodeOp_of_encode {i : Instr} {op : Byte} {operands : List Byte} (h : encode i = op :: operands) :
    decodeOp op (operands.getD 0 0) (operands.getD 1 0) = i := by
  rw [decodeOp_eq_row]
  cases i <;> cases h
  case ldaAbs a | ldaAbsX a | ldaAbsY a | ldxAbs a | ldxAbsY a | ldyAbs a | ldyAbsX a | staAbs a | staAbsX a |
      staAbsY a | stxAbs a | styAbs a | stzAbs a | stzAbsX a | adcAbs a | adcAbsX a | adcAbsY a | sbcAbs a | sbcAbsX a |
      sbcAbsY a | incAbs a | incAbsX a | decAbs a | decAbsX a | andAbs a | andAbsX a | andAbsY a | oraAbs a | oraAbsX a |
      oraAbsY a | eorAbs a | eorAbsX a | eorAbsY a | aslAbs a | aslAbsX a | lsrAbs a | lsrAbsX a | rolAbs a | rolAbsX a |
      rorAbs a | rorAbsX a | cmpAbs a | cmpAbsX a | cmpAbsY a | cpxAbs a | cpyAbs a | jmpAbs a | jmpInd a | jmpAix a |
      jsr a | bitAbs a | bitAbsX a | trbAbs a | tsbAbs a =>
    conv_rhs => rw [← wordOf_hiByte_loByte a]
    rfl
  all_goals rfl

/-- An encoding has an opcode byte, and the operand bytes that the opcode asks for. -/
theorem encode_eq_cons (i : Instr) :
    ∃ op operands, encode i = op :: operands ∧ operands.length + 1 = opcodeLength op := by
  obtain ⟨op, operands, h⟩ : ∃ op operands, encode i = op :: operands := by cases i <;> exact ⟨_, _, rfl⟩
  refine ⟨op, operands, h, ?_⟩
  have hbytes := encode_decodeOp op (operands.getD 0 0) (operands.getD 1 0)
  rw [decodeOp_of_encode h, h, Mode.operandBytes_eq, List.cons.injEq] at hbytes
  obtain ⟨hpos, hle⟩ := Mode.bytes_pos_le_three (opcodeMode op)
  have hlen := congrArg List.length hbytes.2
  simp only [List.length_take, List.length_cons, List.length_nil] at hlen
  rw [opcodeLength_eq_mode_bytes]
  omega

/-- Settles O1: the decoder takes the operand bytes of the encoding, and the opcode map undoes the encoding. -/
theorem decodeEncodeRoundTrip : Obligations.DecodeEncodeRoundTrip := by
  unfold Obligations.DecodeEncodeRoundTrip
  intro i rest
  obtain ⟨op, operands, hi, hlen⟩ := encode_eq_cons i
  rw [hi, decode_append hlen, decodeOp_of_encode hi]

/-- At most two bytes are their first and their second entry. -/
theorem take_getD_of_length_le_two {operands : List Byte} (h : operands.length ≤ 2) :
    [operands.getD 0 0, operands.getD 1 0].take operands.length = operands := by
  obtain _ | ⟨b, _ | ⟨c, _ | ⟨d, operands⟩⟩⟩ := operands
  case cons.cons.cons => simp only [List.length_cons] at h; omega
  all_goals rfl

/-- Settles O2: the bytes that decode are those that the opcode map's entry encodes to. -/
theorem encodeDecodeRoundTrip : Obligations.EncodeDecodeRoundTrip := by
  unfold Obligations.EncodeDecodeRoundTrip
  intro bytes i rest h
  obtain ⟨op, operands, rfl, hlen, rfl⟩ := decode_ok h
  have hle := (opcodeLength_pos_le_three op).2
  rw [encode_decodeOp, Mode.operandBytes_eq, ← opcodeLength_eq_mode_bytes, ← hlen, Nat.add_sub_cancel,
    take_getD_of_length_le_two (by omega)]

/-- Settles O4: each word by the decoder, evaluated. -/
theorem writtenWordsDecode : Obligations.WrittenWordsDecode := by
  unfold Obligations.WrittenWordsDecode
  decide

end Sys2Proof.Machine

/-! Invariants of the step (`60_exceptions.md` R546, R560): each is a property that the accesses of the CPU, the host's
actions and the video step keep, so that `StepClosed` carries it through every step. -/

namespace Sys2Proof.Machine

open Sys2Proof.Config Sys2Proof.Claims

/-- A step is answered on legal parameters only (log 20). -/
theorem wellFormed_of_step {s t : State} (h : step s = .next t) : s.cfg.wellFormed = true := by
  cases hcfg : s.cfg.wellFormed with
  | true => rfl
  | false => simp [step, stepWith, hcfg] at h

theorem numRamBanks_pos_of_wellFormed {cfg : Params} (h : cfg.wellFormed = true) : 1 ≤ cfg.numRamBanks := by
  simp only [Params.wellFormed, Params.ramBanksOk, Bool.and_eq_true, decide_eq_true_eq, and_assoc] at h
  exact h.1

/-- Settles O6: no part of a step can fail to answer, so that only the check of the parameters refuses. -/
theorem stepAnswersNextExactlyOnLegalParameters : Obligations.StepAnswersNextExactlyOnLegalParameters := by
  unfold Obligations.StepAnswersNextExactlyOnLegalParameters
  intro s
  have closed : StepClosed fun _ => True := {
    cpu _ _ _ := trivial, read _ _ _ := trivial, write _ _ _ _ := trivial, pins _ _ _ := trivial
    script _ _ _ := trivial, ramBank _ _ _ := trivial, romBank _ _ _ := trivial, videoReset _ _ := trivial
    videoStep _ _ := trivial }
  refine ⟨fun hcfg => ?_, fun hcfg => ?_⟩
  · obtain ⟨t, ht, -⟩ := closed.step hcfg trivial
    exact ⟨t, ht⟩
  · rw [step, stepWith, hcfg, if_neg Bool.false_ne_true]

/-! ### The memories (`10_state.md` R50 to R56) -/

/-- VIDEO is replaced by one with a sound video memory. -/
theorem State.memorySound_of_vram {s : State} (h : s.memorySound = true) {v : Video}
    (hv : v.vram.sound 0x20000 = true) : State.memorySound { s with video := v } = true := by
  obtain ⟨hram, hbram, hrom, -⟩ := s.memorySound_iff.mp h
  exact (State.memorySound_iff _).mpr ⟨hram, hbram, hrom, hv⟩

theorem State.vram_sound_of_memorySound {s : State} (h : s.memorySound = true) :
    s.video.vram.sound 0x20000 = true := by
  obtain ⟨-, -, -, hvram⟩ := s.memorySound_iff.mp h
  exact hvram

/-- Writes keep the memories sound where there is a bank of RAM to write to. -/
theorem stepClosed_memorySound : StepClosed fun s => 1 ≤ s.cfg.numRamBanks ∧ s.memorySound = true where
  cpu _ _ h := h
  read a s h := ⟨by rw [memRead_cfg]; exact h.1, memRead_memorySound a h.2⟩
  write a v s h := ⟨by rw [memWrite_cfg]; exact h.1, memWrite_memorySound a v h.1 h.2⟩
  pins _ _ h := h
  script _ _ h := h
  ramBank _ _ h := h
  romBank _ _ h := h
  videoReset s h := by
    refine ⟨h.1, State.memorySound_of_vram h.2 ?_⟩
    rw [Video.reset_vram]
    exact resetVram_sound _ _ (State.vram_sound_of_memorySound h.2)
  videoStep s h := by
    refine ⟨h.1, State.memorySound_of_vram h.2 ?_⟩
    rw [Video.step_vram]
    exact State.vram_sound_of_memorySound h.2

/-- Settles O47: soundness of the memories is kept by every access, every video reset and every video step. -/
theorem stepKeepsMemoriesSound : Obligations.StepKeepsMemoriesSound := by
  unfold Obligations.StepKeepsMemoriesSound
  intro s t hs hstep
  have hbanks := numRamBanks_pos_of_wellFormed (wellFormed_of_step hstep)
  exact (stepClosed_memorySound.step_keeps ⟨hbanks, hs⟩ hstep).2

/-! ### The video state (`50_video_registers.md` R382, `51_renderer.md` R434, R447, R474) -/

/-- A read moves a cursor at most. -/
theorem memRead_legal (a : Word) {s : State} (h : s.video.legal s.cfg = true) :
    (memRead a s).2.video.legal (memRead a s).2.cfg = true := by
  rcases memRead_cases a s with e | ⟨_, _, _, _, e⟩ | ⟨_, _, _, e⟩ <;> rw [e]
  · exact h
  · exact (Video.legal_advance _ _ _).trans h
  · exact h

/-- A write reaches VIDEO through a data port or the register file. -/
theorem memWrite_legal (a : Word) (v : Byte) {s : State} (h : s.video.legal s.cfg = true) :
    (memWrite a v s).video.legal (memWrite a v s).cfg = true := by
  have hport (p : Bool) : (dataPortWrite p v s).video.legal (dataPortWrite p v s).cfg = true := by
    rcases dataPortWrite_cases p v s with e | ⟨_, e⟩ <;> rw [e]
    all_goals exact (Video.legal_portWrite _ _ _ _).trans h
  rcases memWrite_cases a v s with e | ⟨_, e⟩ | ⟨_, e⟩ | ⟨_, p, e⟩ | ⟨_, r, e⟩ | ⟨_, _, _, e⟩ | ⟨_, _, e⟩ <;> rw [e]
  case inr.inr.inr.inl => exact hport p
  case inr.inr.inr.inr.inl => exact Video.legal_regWrite r v h
  all_goals exact h

theorem stepClosed_legal : StepClosed fun s => s.video.legal s.cfg = true where
  cpu _ _ h := h
  read a _ h := memRead_legal a h
  write a v _ h := memWrite_legal a v h
  pins _ _ h := h
  script _ _ h := h
  ramBank _ _ h := h
  romBank _ _ h := h
  videoReset _ h := Video.legal_reset h
  videoStep _ h := Video.legal_step h

/-- Settles O48: the legal video state is kept by every access, every video reset and every video step. -/
theorem stepKeepsVideoLegal : Obligations.StepKeepsVideoLegal := by
  unfold Obligations.StepKeepsVideoLegal
  exact fun s t hs hstep => stepClosed_legal.step_keeps hs hstep

/-! ### The ROM, the parameters and the RAM bank register (`20_memory.md` R96, R106) -/

theorem bankLegal_setRamBank (v : Nat) (s : State) : (setRamBank v s).bankLegal = true :=
  decide_eq_true (Nat.mod_lt v (Nat.two_pow_pos _))

/-- The bank register fits its width as long as it and the width stay, and whenever it is written. -/
theorem State.bankLegal_congr {s t : State} (hbank : t.bus.ramBank = s.bus.ramBank) (hcfg : t.cfg = s.cfg) :
    t.bankLegal = s.bankLegal := by
  simp only [State.bankLegal, hbank, hcfg]

/-- A state with the ROM and the parameters of `s`, and with a legal bank register if that of `s` is. -/
def KeepsRom (s u : State) : Prop :=
  u.bus.rom = s.bus.rom ∧ u.cfg = s.cfg ∧ (s.bankLegal = true → u.bankLegal = true)

theorem KeepsRom.of_eq {s u v : State} (h : KeepsRom s u) (hrom : v.bus.rom = u.bus.rom) (hcfg : v.cfg = u.cfg)
    (hbank : v.bus.ramBank = u.bus.ramBank) : KeepsRom s v :=
  ⟨hrom.trans h.1, hcfg.trans h.2.1, fun hs => (State.bankLegal_congr hbank hcfg).trans (h.2.2 hs)⟩

theorem stepClosed_keepsRom (s : State) : StepClosed (KeepsRom s) where
  cpu _ _ h := h
  read a u h := h.of_eq (by rw [memRead_bus]) (memRead_cfg a u) (by rw [memRead_bus])
  write a v u h := h.of_eq (memWrite_rom a v u) (memWrite_cfg a v u) (memWrite_ramBank a v u)
  pins _ _ h := h
  script _ _ h := h
  ramBank u v h := ⟨h.1, h.2.1, fun _ => bankLegal_setRamBank v u⟩
  romBank _ _ h := h
  videoReset _ h := h.of_eq rfl rfl rfl
  videoStep _ h := h.of_eq rfl rfl rfl

/-- Settles O49: no access writes the ROM or a parameter, and the port of the bank register cuts to its width. -/
theorem stepKeepsRomParametersAndBankWidth : Obligations.StepKeepsRomParametersAndBankWidth := by
  unfold Obligations.StepKeepsRomParametersAndBankWidth
  exact fun s t hstep => (stepClosed_keepsRom s).step_keeps ⟨rfl, rfl, id⟩ hstep

/-- Settles O46: the values and the checks of the reset state, evaluated. -/
theorem resetStateIsSound : Obligations.ResetStateIsSound := by
  unfold Obligations.ResetStateIsSound
  refine ⟨rfl, rfl, rfl, rfl, rfl, rfl, rfl, rfl, rfl, rfl, rfl, ?_, reset_memorySound, ?_, ?_⟩
  all_goals decide

end Sys2Proof.Machine

/-! The instructions that only read (`40_load_store.md` R180 to R183, `42_logical.md`, `44_compare.md`, `49_bit_system.md`
R331): one lemma about the read of an operand, one about a reading instruction, and the flags of each kind. -/

namespace Sys2Proof.Machine

open Sys2Proof.Config Sys2Proof.Claims

/-! ### The read of an operand (R180) -/

@[simp] theorem Video.setCursor_fb (v : Video) (one : Bool) (c : Cursor) : (v.setCursor one c).fb = v.fb := by
  cases one <;> rfl

@[simp] theorem Video.advance_fb (v : Video) (one : Bool) : (v.advance one).fb = v.fb := by
  simp only [Video.advance, Video.reloadLatch, Video.setCursor_fb]

/-- A read shows nothing on the screen. -/
@[simp] theorem memRead_fb (a : Word) (s : State) : (memRead a s).2.video.fb = s.video.fb := by
  rcases memRead_cases a s with e | ⟨_, _, _, _, e⟩ | ⟨_, _, _, e⟩ <;> simp [e]

/-- After the read of its operand an instruction that only reads can change the CPU alone. -/
theorem readsOnly_of_read (o : Operand) (s : State) (c : Cpu) : readsOnly o s { (o.read s).2 with cpu := c } := by
  cases o with
  | imm v => exact ⟨rfl, fun _ => rfl, rfl, rfl, rfl, rfl, rfl, rfl, rfl, fun _ => rfl⟩
  | mem m =>
    refine ⟨rfl, fun b => memRead_cell (m.address s) b s, memRead_bus _ s, memRead_vram _ s, memRead_fb _ s,
      memRead_emu _ s, memRead_pins _ s, memRead_cfg _ s, memRead_script _ s, fun hdev => ?_⟩
    have hread : ((Operand.mem m).read s).2 = s := congrArg Prod.snd (memRead_of_not_io hdev s)
    rw [hread]

@[simp] theorem Operand.read_cfg (o : Operand) (s : State) : (o.read s).2.cfg = s.cfg := by
  cases o with
  | imm v => rfl
  | mem m => exact memRead_cfg _ s

/-- The charge of an opcode looks at the parameters alone. -/
theorem State.chargeOp_of_cfg {s u : State} (h : u.cfg = s.cfg) (op : Nat) (cross : Bool) :
    u.chargeOp op cross = u.charge (baseCost s.cfg op + crossing s op cross) := by
  have hcross : crossing u op cross = crossing s op cross := by simp only [crossing, h]
  rw [State.chargeOp_eq_charge, hcross, h]

/-- A reading instruction whose work is a change `g` of the CPU with the byte read: what it answers, its frame, and the
CPU with the charge of the opcode. -/
theorem readingInstr_next {f : Byte → State → State} {g : Byte → Cpu → Cpu}
    (hf : ∀ v t, f v t = { t with cpu := g v t.cpu }) (op : Nat) (o : Operand) (s : State) :
    ∃ t, readingInstr op o f s = .next t ∧ readsOnly o s t ∧
      t.cpu = { g (o.read s).1 s.cpu with
        cycles := (g (o.read s).1 s.cpu).cycles +
          BitVec.ofNat 32 (s.cfg.baseCost.getD op 0 + crossing s op (o.cross s)) } := by
  refine ⟨_, rfl, ?_⟩
  have hcfg : (f (o.read s).1 (o.read s).2).cfg = s.cfg := by rw [hf]; exact o.read_cfg s
  rw [State.chargeOp_of_cfg hcfg, hf, o.read_cpu]
  exact ⟨readsOnly_of_read o s _, rfl⟩

/-! ### Loads (R181 to R183) -/

theorem loads_of_loadA {i : Instr} {op : Nat} {o : Operand} (hi : ∀ s, exec i s = loadA op o s) :
    loads (fun v c => { c with a := v }) i op o := by
  intro s
  rw [hi]
  exact readingInstr_next (g := fun v c => { c with a := v, p := nzOf v c.p }) (fun v t => t.setA_setNZ_eq v) op o s

theorem loads_of_loadX {i : Instr} {op : Nat} {o : Operand} (hi : ∀ s, exec i s = loadX op o s) :
    loads (fun v c => { c with x := v }) i op o := by
  intro s
  rw [hi]
  exact readingInstr_next (g := fun v c => { c with x := v, p := nzOf v c.p }) (fun v t => t.setX_setNZ_eq v) op o s

theorem loads_of_loadY {i : Instr} {op : Nat} {o : Operand} (hi : ∀ s, exec i s = loadY op o s) :
    loads (fun v c => { c with y := v }) i op o := by
  intro s
  rw [hi]
  exact readingInstr_next (g := fun v c => { c with y := v, p := nzOf v c.p }) (fun v t => t.setY_setNZ_eq v) op o s

/-- Settles O9: each form is the load of `A` from its operand. -/
theorem loadAccumulator : Obligations.LoadAccumulator := by
  unfold Obligations.LoadAccumulator
  and_intros
  all_goals exact fun _ => loads_of_loadA fun _ => rfl

/-- Settles O10: each form is the load of `X` or of `Y` from its operand. -/
theorem loadIndexRegisters : Obligations.LoadIndexRegisters := by
  unfold Obligations.LoadIndexRegisters
  refine ⟨?_, ?_, ?_, ?_, ?_, fun _ => loads_of_loadY fun _ => rfl, fun _ => loads_of_loadY fun _ => rfl,
    fun _ => loads_of_loadY fun _ => rfl, fun _ => loads_of_loadY fun _ => rfl, fun _ => loads_of_loadY fun _ => rfl⟩
  all_goals exact fun _ => loads_of_loadX fun _ => rfl

/-! ### AND, ORA and EOR (R220 to R223) -/

theorem combines_of_combine {f : Byte → Byte → Byte} {i : Instr} {op : Nat} {o : Operand}
    (hi : ∀ s, exec i s = combine f op o s) : combines f i op o := by
  intro s
  rw [hi]
  exact readingInstr_next (g := fun v c => { c with a := f c.a v, p := nzOf (f c.a v) c.p })
    (fun v t => t.setA_setNZ_eq (f t.cpu.a v)) op o s

/-- Settles O14: each form combines `A` with its operand. -/
theorem logicalCombinations : Obligations.LogicalCombinations := by
  unfold Obligations.LogicalCombinations
  and_intros
  all_goals exact fun _ => combines_of_combine fun _ => rfl

/-! ### CMP, CPX and CPY (R240 to R243) -/

theorem toNat_complement (v : Byte) : (v ^^^ 0xFF#8).toNat = 255 - v.toNat := by
  rw [show v ^^^ 0xFF#8 = ~~~v from BitVec.xor_allOnes, BitVec.toNat_not]

/-- The compare adds the complement and 1; on numbers that is 256 and the difference. -/
theorem compareSum_eq (reg v : Byte) : reg.toNat + (v ^^^ 0xFF#8).toNat + 1 = 256 + reg.toNat - v.toNat := by
  have hv := v.isLt
  rw [toNat_complement]
  omega

theorem testBit_seven_eq_decide (v : Byte) : testBit v 7 = decide (128 ≤ v.toNat) := by
  rw [testBit_seven_eq_msb, BitVec.msb_eq_decide]

theorem compareFlags_eq (reg v : Byte) (f : Flags) :
    compareFlags reg v f = { f with
      c := decide (v.toNat ≤ reg.toNat)
      z := decide (reg = v)
      n := decide (128 ≤ (256 + reg.toNat - v.toNat) % 256) } := by
  have hreg := reg.isLt
  have hv := v.isLt
  have hcarry : decide (256 ≤ 256 + reg.toNat - v.toNat) = decide (v.toNat ≤ reg.toNat) :=
    decide_eq_decide.mpr (by omega)
  have hzero : decide (BitVec.ofNat 8 (256 + reg.toNat - v.toNat) = 0) = decide (reg = v) := by
    rw [decide_eq_decide, ← BitVec.toNat_inj, ← BitVec.toNat_inj, BitVec.toNat_ofNat]
    show _ % 256 = 0 ↔ _
    omega
  simp only [compareFlags, compareSum_eq, Flags.setNZ, testBit_seven_eq_decide, BitVec.toNat_ofNat, hcarry, hzero]

theorem compares_of_compareWith {reg : Cpu → Byte} {i : Instr} {op : Nat} {o : Operand}
    (hi : ∀ s, exec i s = compareWith (reg s.cpu) op o s) : compares reg i op o := by
  intro s
  rw [hi]
  obtain ⟨t, ht, hreads, hcpu⟩ :=
    readingInstr_next (g := fun v c => { c with p := compareFlags (reg s.cpu) v c.p }) (fun _ _ => rfl) op o s
  refine ⟨t, ht, hreads, hcpu.trans ?_⟩
  rw [compareFlags_eq]
  rfl

/-- Settles O15: each form compares its register with its operand. -/
theorem comparesSetCarryZeroNegative : Obligations.ComparesSetCarryZeroNegative := by
  unfold Obligations.ComparesSetCarryZeroNegative
  and_intros
  all_goals exact fun _ => compares_of_compareWith fun _ => rfl

/-! ### BIT (R331) -/

theorem testsMemory_of_bitMemory {i : Instr} {op : Nat} {m : AddrMode} (hi : ∀ s, exec i s = bitMemoryInstr op m s) :
    testsMemory i op m := by
  intro s
  rw [hi]
  exact readingInstr_next (g := fun v c => { c with p := c.p.bitMemory c.a v }) (fun _ _ => rfl) op (.mem m) s

/-- Settles O33: the memory forms read their operand; the immediate form is a change of the flags. -/
theorem bitTests : Obligations.BitTests := by
  unfold Obligations.BitTests
  refine ⟨?_, ?_, ?_, ?_, fun v => ?immediate⟩
  case immediate =>
    refine changesCpu_of_implied (f := fun s => s.setP (s.cpu.p.testZ s.cpu.a v)) (fun _ => rfl) (fun _ => ?_) fun _ => ?_
    all_goals rfl
  all_goals exact fun _ => testsMemory_of_bitMemory fun _ => rfl

end Sys2Proof.Machine

/-! ADC and SBC (`41_arithmetic.md` R200 to R204): the results of the model on numbers, binary and decimal, and what an
accumulating instruction makes of them. -/

namespace Sys2Proof.Machine

open Sys2Proof.Config Sys2Proof.Claims

/-! ### The results on numbers -/

/-- What ADC or SBC computes from `A`, the operand and the flags: the value and the carry of `binary` or, on decimal
digits, of `decimal`, the overflow of binary mode, N and Z from the value, and no other flag. -/
structure ComputesSum (f : Byte → Byte → Flags → FlaggedByte) (binary decimal : Byte → Byte → Bool → Byte × Bool)
    (overflow : Byte → Byte → Bool → Bool) : Prop where
  keeps : ∀ a v p, (f a v p).flags = { p with
    n := (f a v p).flags.n, v := (f a v p).flags.v, z := (f a v p).flags.z, c := (f a v p).flags.c }
  negative : ∀ a v p, (f a v p).flags.n = (f a v p).value.msb
  zero : ∀ a v p, (f a v p).flags.z = decide ((f a v p).value = 0)
  binary : ∀ a v p, p.d = false → ((f a v p).value, (f a v p).flags.c) = binary a v p.c
  overflow : ∀ a v p, p.d = false → (f a v p).flags.v = overflow a v p.c
  decimal : ∀ a v p, p.d = true → decimalDigits a → decimalDigits v →
    ((f a v p).value, (f a v p).flags.c) = decimal a v p.c

theorem Flags.carry_le_one (f : Flags) : f.carry ≤ 1 := Bool.toNat_le f.c

/-- The sign bits of the model say on numbers that the signed sum leaves the range of a byte (R201). -/
theorem signedOverflow_eq_outOfRange (a w : Byte) {c : Nat} (hc : c ≤ 1) :
    signedOverflow a w (BitVec.ofNat 8 (a.toNat + w.toNat + c)) = outOfRange (a.toInt + w.toInt + c) := by
  have ha := a.isLt
  have hw := w.isLt
  have hxor (x y : Byte) : testBit (x ^^^ y) 7 = (decide (128 ≤ x.toNat) ^^ decide (128 ≤ y.toNat)) := by
    rw [← testBit_seven_eq_decide, ← testBit_seven_eq_decide]
    exact BitVec.getLsbD_xor
  rw [Bool.eq_iff_iff]
  simp only [signedOverflow, testBit_and, hxor, outOfRange, BitVec.toNat_ofNat, BitVec.toInt_eq_toNat_cond,
    Bool.and_eq_true, bne_iff_ne, ne_eq, decide_eq_decide, decide_eq_true_eq]
  split <;> split <;> omega

/-! ### ADC (R201, R202) -/

theorem adcResult_of_not_decimal (a v : Byte) {p : Flags} (h : p.d = false) : adcResult a v p = adcBinary a v p :=
  if_neg (Bool.eq_false_iff.mp h)

theorem adcResult_of_decimal (a v : Byte) {p : Flags} (h : p.d = true) : adcResult a v p = adcDecimal a v p := if_pos h

theorem adcBinary_flags_v (a v : Byte) (p : Flags) :
    (adcBinary a v p).flags.v = outOfRange (a.toInt + v.toInt + p.c.toNat) :=
  signedOverflow_eq_outOfRange a v p.carry_le_one

/-- The fix-up of the low digit adds 6 from 10 on (R202). -/
theorem decimalLow_eq {a v : Byte} (ha : decimalDigits a) (hv : decimalDigits v) (p : Flags) :
    decimalLow a v p = a.toNat % 16 + v.toNat % 16 + p.carry +
      if 10 ≤ a.toNat % 16 + v.toNat % 16 + p.carry then 6 else 0 := by
  have hc := p.carry_le_one
  obtain ⟨-, hal⟩ := ha
  obtain ⟨-, hvl⟩ := hv
  simp only [decimalLow]
  split <;> omega

/-- The two decimal digits of a number modulo 100. -/
theorem digits_mod_hundred {n h l : Nat} (hn : n = 10 * h + l) (hh : h ≤ 19) (hl : l ≤ 9) :
    16 * (n % 100 / 10) + n % 100 % 10 = (if 10 ≤ h then 16 * (h - 10) else 16 * h) + l := by
  split <;> omega

/-- The digits that the two fix-ups leave, and the carry out of the high one. -/
theorem bcd_sum_fixed {ah al vh vl c low t u : Nat} (hah : ah ≤ 9) (hal : al ≤ 9) (hvh : vh ≤ 9) (hvl : vl ≤ 9)
    (hc : c ≤ 1) (hlow : low = al + vl + c + if 10 ≤ al + vl + c then 6 else 0) (ht : t = ah * 16 + vh * 16 + low)
    (hu : u = if 160 ≤ t then t + 96 else t) :
    u % 256 = 16 * ((10 * ah + al + (10 * vh + vl) + c) % 100 / 10) + (10 * ah + al + (10 * vh + vl) + c) % 100 % 10 ∧
      (256 ≤ u ↔ 100 ≤ 10 * ah + al + (10 * vh + vl) + c) := by
  split at hlow
  · rw [digits_mod_hundred (n := 10 * ah + al + (10 * vh + vl) + c) (h := ah + vh + 1)
      (l := al + vl + c - 10) (by omega) (by omega) (by omega)]
    split at hu <;> split <;> omega
  · rw [digits_mod_hundred (n := 10 * ah + al + (10 * vh + vl) + c) (h := ah + vh)
      (l := al + vl + c) (by omega) (by omega) (by omega)]
    split at hu <;> split <;> omega

/-- On decimal digits decimal ADC gives the BCD sum (R202). -/
theorem adcDecimal_eq {a v : Byte} (ha : decimalDigits a) (hv : decimalDigits v) (p : Flags) :
    ((adcDecimal a v p).value, (adcDecimal a v p).flags.c) =
      (toBcd ((bcd a + bcd v + p.c.toNat) % 100), decide (100 ≤ bcd a + bcd v + p.c.toNat)) := by
  obtain ⟨hvalue, hcarry⟩ := bcd_sum_fixed ha.1 ha.2 hv.1 hv.2 p.carry_le_one (decimalLow_eq ha hv p) rfl rfl
  refine Prod.ext (BitVec.eq_of_toNat_eq ?_) (decide_eq_decide.mpr hcarry)
  rw [toBcd, BitVec.toNat_ofNat, Nat.mod_eq_of_lt (by omega)]
  exact (BitVec.toNat_ofNat _ 8).trans hvalue

theorem adcResult_computesSum : ComputesSum adcResult
    (fun a v c => (BitVec.ofNat 8 (a.toNat + v.toNat + c.toNat), decide (256 ≤ a.toNat + v.toNat + c.toNat)))
    (fun a v c => (toBcd ((bcd a + bcd v + c.toNat) % 100), decide (100 ≤ bcd a + bcd v + c.toNat)))
    (fun a v c => outOfRange (a.toInt + v.toInt + c.toNat)) where
  keeps a v p := by unfold adcResult; split <;> rfl
  negative a v p := by unfold adcResult; split <;> exact testBit_seven_eq_msb _
  zero a v p := by unfold adcResult; split <;> rfl
  binary a v p hd := by rw [adcResult_of_not_decimal a v hd]; rfl
  overflow a v p hd := by rw [adcResult_of_not_decimal a v hd]; exact adcBinary_flags_v a v p
  decimal a v p hd ha hv := by rw [adcResult_of_decimal a v hd]; exact adcDecimal_eq ha hv p

/-! ### SBC (R203, R204) -/

theorem sbcResult_of_not_decimal (a v : Byte) {p : Flags} (h : p.d = false) : sbcResult a v p = sbcBinary a v p :=
  if_neg (Bool.eq_false_iff.mp h)

theorem sbcResult_of_decimal (a v : Byte) {p : Flags} (h : p.d = true) : sbcResult a v p = sbcDecimal a v p := if_pos h

theorem toInt_complement (v : Byte) : (v ^^^ 0xFF#8).toInt = -1 - v.toInt := by
  have hv := v.isLt
  simp only [BitVec.toInt_eq_toNat_cond, toNat_complement]
  split <;> split <;> omega

theorem sbcBinary_value_c (a v : Byte) (p : Flags) :
    ((sbcBinary a v p).value, (sbcBinary a v p).flags.c) =
      (BitVec.ofNat 8 (a.toNat + 255 - v.toNat + p.c.toNat), decide (v.toNat + 1 ≤ a.toNat + p.c.toNat)) := by
  have hv := v.isLt
  have hsum : a.toNat + (255 - v.toNat) + p.carry = a.toNat + 255 - v.toNat + p.c.toNat := by
    rw [Flags.carry]
    omega
  simp only [sbcBinary, adcBinary, Flags.setNZ_c, toNat_complement, hsum, Prod.mk.injEq, true_and, decide_eq_decide]
  omega

theorem sbcBinary_flags_v (a v : Byte) (p : Flags) :
    (sbcBinary a v p).flags.v = outOfRange (a.toInt - v.toInt - 1 + p.c.toNat) := by
  rw [sbcBinary, adcBinary_flags_v, toInt_complement]
  congr 1
  omega

/-- The digits that the two fix-ups of decimal SBC leave on integers, and the borrow out of the high one (R204). -/
theorem bcd_difference_fixed {ah al vh vl c : Nat} {t u w : Int} (hah : ah ≤ 9) (hal : al ≤ 9) (hvh : vh ≤ 9)
    (hvl : vl ≤ 9) (hc : c ≤ 1) (ht : t = (16 * ah + al : Nat) - (16 * vh + vl : Nat) + c - 1)
    (hu : u = if t < 0 then t - 96 else t) (hw : w = if (al : Int) - vl + c - 1 < 0 then u - 6 else u) :
    (w % 256).toNat = 16 * ((100 + (10 * ah + al) + c - 1 - (10 * vh + vl)) % 100 / 10) +
        (100 + (10 * ah + al) + c - 1 - (10 * vh + vl)) % 100 % 10 ∧
      (16 * vh + vl + 1 ≤ 16 * ah + al + c ↔ 10 * vh + vl + 1 ≤ 10 * ah + al + c) := by
  split at hw
  · rw [digits_mod_hundred (n := 100 + (10 * ah + al) + c - 1 - (10 * vh + vl))
      (h := 9 + ah - vh) (l := 9 + al + c - vl) (by omega) (by omega) (by omega)]
    split at hu <;> split <;> omega
  · rw [digits_mod_hundred (n := 100 + (10 * ah + al) + c - 1 - (10 * vh + vl))
      (h := 10 + ah - vh) (l := al + c - 1 - vl) (by omega) (by omega) (by omega)]
    split at hu <;> split <;> omega

/-- On decimal digits decimal SBC gives the BCD difference, and the borrow of binary mode is that of the digits
(R204). -/
theorem sbcDecimal_eq {a v : Byte} (ha : decimalDigits a) (hv : decimalDigits v) (p : Flags) :
    ((sbcDecimal a v p).value, (sbcDecimal a v p).flags.c) =
      (toBcd ((100 + bcd a + p.c.toNat - 1 - bcd v) % 100), decide (bcd v + 1 ≤ bcd a + p.c.toNat)) := by
  obtain ⟨hvalue, hcarry⟩ := bcd_difference_fixed ha.1 ha.2 hv.1 hv.2 p.carry_le_one rfl rfl rfl
  rw [Nat.div_add_mod, Nat.div_add_mod] at hvalue hcarry
  refine Prod.ext (BitVec.eq_of_toNat_eq ?_)
    ((congrArg Prod.snd (sbcBinary_value_c a v p)).trans (decide_eq_decide.mpr hcarry))
  rw [toBcd, BitVec.toNat_ofNat, Nat.mod_eq_of_lt (by omega)]
  exact (BitVec.toNat_ofInt _).trans hvalue

theorem sbcResult_computesSum : ComputesSum sbcResult
    (fun a v c => (BitVec.ofNat 8 (a.toNat + 255 - v.toNat + c.toNat), decide (v.toNat + 1 ≤ a.toNat + c.toNat)))
    (fun a v c => (toBcd ((100 + bcd a + c.toNat - 1 - bcd v) % 100), decide (bcd v + 1 ≤ bcd a + c.toNat)))
    (fun a v c => outOfRange (a.toInt - v.toInt - 1 + c.toNat)) where
  keeps a v p := by unfold sbcResult; split <;> rfl
  negative a v p := by unfold sbcResult; split <;> exact testBit_seven_eq_msb _
  zero a v p := by unfold sbcResult; split <;> rfl
  binary a v p hd := by rw [sbcResult_of_not_decimal a v hd]; exact sbcBinary_value_c a v p
  overflow a v p hd := by rw [sbcResult_of_not_decimal a v hd]; exact sbcBinary_flags_v a v p
  decimal a v p hd ha hv := by rw [sbcResult_of_decimal a v hd]; exact sbcDecimal_eq ha hv p

/-! ### The instructions (R200) -/

theorem accumulates_of_computesSum {f : Byte → Byte → Flags → FlaggedByte}
    {binary decimal : Byte → Byte → Bool → Byte × Bool} {overflow : Byte → Byte → Bool → Bool}
    (hf : ComputesSum f binary decimal overflow) {i : Instr} {op : Nat} {o : Operand}
    (hi : ∀ s, exec i s = accumulate f op o s) : accumulates binary decimal overflow i op o := by
  intro s
  rw [hi]
  obtain ⟨t, ht, hreads, hcpu⟩ := readingInstr_next
    (g := fun v c => { c with
      a := (f c.a v c.p).value, p := (f c.a v c.p).flags
      cycles := c.cycles + BitVec.ofNat 32 (decimalExtra s) }) (fun _ _ => rfl) op o s
  have hcycles : s.cpu.cycles + BitVec.ofNat 32 (decimalExtra s) +
      BitVec.ofNat 32 (s.cfg.baseCost.getD op 0 + crossing s op (o.cross s)) =
      cyclesAfter s op (crossing s op (o.cross s) + if s.cpu.p.d then s.cfg.decimalExtraCycle else 0) := by
    rw [BitVec.add_assoc, ← BitVec.ofNat_add, Nat.add_comm (decimalExtra s), Nat.add_assoc]
    rfl
  refine ⟨t, ht, hreads, ?frame, fun hd => ?binary, fun hd ha hv => ?decimal⟩ <;> rw [hcpu]
  case frame => rw [hcycles, hf.keeps]
  case binary => exact ⟨hf.binary _ _ _ hd, hf.overflow _ _ _ hd, hf.negative _ _ _, hf.zero _ _ _⟩
  case decimal => exact ⟨hf.decimal _ _ _ hd ha hv, hf.negative _ _ _, hf.zero _ _ _⟩

/-- Settles O12: each form accumulates the result of ADC. -/
theorem addWithCarry : Obligations.AddWithCarry := by
  unfold Obligations.AddWithCarry
  and_intros
  all_goals exact fun _ => accumulates_of_computesSum adcResult_computesSum fun _ => rfl

/-- Settles O13: each form accumulates the result of SBC. -/
theorem subtractWithBorrow : Obligations.SubtractWithBorrow := by
  unfold Obligations.SubtractWithBorrow
  and_intros
  all_goals exact fun _ => accumulates_of_computesSum sbcResult_computesSum fun _ => rfl

end Sys2Proof.Machine

/-! The instructions that write memory (`40_load_store.md` R184 to R187, `41_arithmetic.md` R205, R206,
`43_shift_rotate.md`, `49_bit_system.md` R332 to R335): what one write does to the machine, and the changes of a byte on
numbers. -/

namespace Sys2Proof.Machine

open Sys2Proof.Config Sys2Proof.Claims

/-! ### One write (R101, R104 to R106) -/

/-- A write to RAM changes the BUS alone. -/
theorem memWrite_of_ram {a : Word} (h : region a = .directRam ∨ region a = .bankedRam) (v : Byte) (s : State) :
    memWrite a v s = { s with bus := (memWrite a v s).bus } := by
  rcases h with h | h
  · rw [memWrite_of_directRam h]
  · rw [memWrite_of_bankedRam h]

theorem ne_io_of_ram {a : Word} (h : region a = .directRam ∨ region a = .bankedRam) : region a ≠ .io := by
  rcases h with h | h <;> simp [h]

theorem cell_memWrite_same {a : Word} (h : region a = .directRam ∨ region a = .bankedRam) (v : Byte) (s : State) :
    (memWrite a v s).cell a = v := by
  rw [cell_memWrite, if_pos ⟨rfl, h⟩]

theorem cell_memWrite_other {a b : Word} (h : b ≠ a) (v : Byte) (s : State) : (memWrite a v s).cell b = s.cell b := by
  rw [cell_memWrite, if_neg fun hb => h hb.1]

/-! ### Stores (R184 to R187) -/

theorem storesAt_memWrite (ea : Word) (v : Byte) (s : State) (c : Cpu) :
    storesAt ea v s { memWrite ea v s with cpu := c } := by
  refine ⟨rfl, fun b hb => cell_memWrite_other hb v s, fun hram => ⟨cell_memWrite_same hram v s, ?ram⟩,
    fun hrom => ?rom, fun hio => memWrite_bus_of_not_ram v s (by simp [hio]), memWrite_rom ea v s,
    memWrite_ramBank ea v s, memWrite_romBank ea v s, memWrite_cfg ea v s, memWrite_pins ea v s, memWrite_script ea v s⟩
  case ram => rw [memWrite_of_ram hram]
  case rom => rw [memWrite_of_bankedRom hrom]

theorem stores_of_storingInstr {v : Cpu → Byte} {i : Instr} {op : Nat} {m : AddrMode}
    (hi : ∀ s, exec i s = storingInstr op m (v s.cpu) s) : stores v i op m := by
  intro s
  refine ⟨_, hi s, ?_⟩
  rw [State.chargeOp_of_cfg (memWrite_cfg _ _ s), State.charge, memWrite_cpu]
  exact ⟨storesAt_memWrite (m.address s) (v s.cpu) s _, rfl⟩

/-- Settles O11: each form stores its byte at the address of its mode. -/
theorem storesWriteOneByte : Obligations.StoresWriteOneByte := by
  unfold Obligations.StoresWriteOneByte
  and_intros
  all_goals exact fun _ => stores_of_storingInstr fun _ => rfl

/-! ### Read-modify-write (R200, R230, R330) -/

/-- A modifying instruction on memory: the write of the result after the read, the flags, the charge. -/
theorem modifyingInstr_mem (op : Nat) (m : AddrMode) (f : Byte → Flags → FlaggedByte) (s : State) :
    modifyingInstr op (.mem m) f s = .next
      { memWrite (m.address s) (f (memRead (m.address s) s).1 s.cpu.p).value (memRead (m.address s) s).2 with
        cpu := { s.cpu with
          p := (f (memRead (m.address s) s).1 s.cpu.p).flags
          cycles := cyclesAfter s op (crossing s op (m.cross s)) } } := by
  have hcfg (w : Byte) (p : Flags) :
      ((memWrite (m.address s) w (memRead (m.address s) s).2).setP p).cfg = s.cfg := by
    rw [State.setP_cfg, memWrite_cfg, memRead_cfg]
  refine congrArg _ ((State.chargeOp_of_cfg (hcfg _ _) op _).trans ?_)
  rw [State.charge, State.setP, memWrite_cpu, memRead_cpu]
  rfl

/-- A modifying instruction on memory whose result and flags are those of the change `g`. -/
theorem modifies_of_modifyingInstr {f : Cpu → Byte → Flags → FlaggedByte} {g : Change} {i : Instr} {op : Nat}
    {m : AddrMode} (hf : ∀ v c, f c v c.p = ⟨(g v c).1, (g v c).2⟩)
    (hi : ∀ s, exec i s = modifyingInstr op (.mem m) (f s.cpu) s) : modifies g i op m := by
  intro s
  refine ⟨_, (hi s).trans (modifyingInstr_mem op m (f s.cpu) s), ?_⟩
  rw [hf]
  refine ⟨rfl, fun b hb => ?other, fun hram => ⟨?same, ?ram⟩, ?rom, rfl⟩
  case other => exact (cell_memWrite_other hb _ _).trans (memRead_cell _ b s)
  case same =>
    refine (cell_memWrite_same hram _ _).trans ?_
    rw [memRead_of_not_io (ne_io_of_ram hram)]
  case ram => rw [memRead_of_not_io (ne_io_of_ram hram), memWrite_of_ram hram]
  case rom => exact (memWrite_rom _ _ _).trans (by rw [memRead_bus])

theorem modifiesA_of_modifyingInstr {f : Cpu → Byte → Flags → FlaggedByte} {g : Change} {i : Instr} {op : Nat}
    (hf : ∀ v c, f c v c.p = ⟨(g v c).1, (g v c).2⟩)
    (hi : ∀ s, exec i s = modifyingInstr op .acc (f s.cpu) s) : modifiesA g i op := by
  intro s
  rw [hi, modifyingInstr, hf]
  exact congrArg _ (State.chargeOp_false _ op)

/-! ### INC and DEC (R205, R206) -/

theorem incResult_eq (v : Byte) (c : Cpu) : incResult v c.p = ⟨(incremented 1 v c).1, (incremented 1 v c).2⟩ := by
  have hv : BitVec.ofNat 8 (v.toNat + 1) = v + 1 := by simp [BitVec.ofNat_add]
  simp only [incResult, incremented, hv, Flags.setNZ_eq_nzOf]

theorem decResult_eq (v : Byte) (c : Cpu) : decResult v c.p = ⟨(incremented 255 v c).1, (incremented 255 v c).2⟩ := by
  have hv : BitVec.ofNat 8 (v.toNat + 255) = v - 1 := by
    rw [BitVec.ofNat_add, BitVec.ofNat_toNat, BitVec.setWidth_eq]
    exact (BitVec.sub_eq_add_neg v 1#8).symm
  simp only [decResult, incremented, hv, Flags.setNZ_eq_nzOf]

theorem modifies_of_inc {i : Instr} {op : Nat} {m : AddrMode}
    (hi : ∀ s, exec i s = modifyingInstr op (.mem m) incResult s) : modifies (incremented 1) i op m :=
  modifies_of_modifyingInstr incResult_eq hi

theorem modifies_of_dec {i : Instr} {op : Nat} {m : AddrMode}
    (hi : ∀ s, exec i s = modifyingInstr op (.mem m) decResult s) : modifies (incremented 255) i op m :=
  modifies_of_modifyingInstr decResult_eq hi

/-- Settles O16: each form applies the increment or the decrement to its byte. -/
theorem incrementDecrement : Obligations.IncrementDecrement := by
  unfold Obligations.IncrementDecrement
  refine ⟨modifiesA_of_modifyingInstr incResult_eq fun _ => rfl, ?_, ?_, ?_, ?_,
    modifiesA_of_modifyingInstr decResult_eq fun _ => rfl, fun _ => modifies_of_dec fun _ => rfl,
    fun _ => modifies_of_dec fun _ => rfl, fun _ => modifies_of_dec fun _ => rfl,
    fun _ => modifies_of_dec fun _ => rfl⟩
  all_goals exact fun _ => modifies_of_inc fun _ => rfl

/-! ### ASL, LSR, ROL and ROR (R231 to R234) -/

theorem testBit_zero_eq_decide (v : Byte) : testBit v 0 = decide (v.toNat % 2 = 1) := by
  rw [testBit, BitVec.getLsbD, Nat.testBit_zero]

theorem shiftLeft_eq_ofNat (v : Byte) : v <<< 1 = BitVec.ofNat 8 (2 * v.toNat) := by
  apply BitVec.eq_of_toNat_eq
  rw [BitVec.toNat_shiftLeft, BitVec.toNat_ofNat, Nat.shiftLeft_eq, Nat.mul_comm]

theorem shiftRight_eq_ofNat (v : Byte) : v >>> 1 = BitVec.ofNat 8 (v.toNat / 2) := by
  have hv := v.isLt
  apply BitVec.eq_of_toNat_eq
  rw [BitVec.toNat_ushiftRight, BitVec.toNat_ofNat, Nat.shiftRight_eq_div_pow]
  omega

/-- The carry comes in at bit 0, which the shift has freed (R233). -/
theorem rotateLeft_eq_ofNat (v : Byte) (c : Bool) :
    v <<< 1 ||| (BitVec.ofBool c).setWidth 8 = BitVec.ofNat 8 (2 * v.toNat + c.toNat) := by
  have hfree : v <<< 1 &&& (BitVec.ofBool c).setWidth 8 = 0#8 := by revert v c; decide
  rw [← BitVec.add_eq_or_of_and_eq_zero _ _ hfree, shiftLeft_eq_ofNat, BitVec.ofNat_add]
  congr 1
  cases c <;> rfl

/-- The carry comes in at bit 7, which the shift has freed (R234). -/
theorem rotateRight_eq_ofNat (v : Byte) (c : Bool) :
    v >>> 1 ||| (BitVec.ofBool c).setWidth 8 <<< 7 = BitVec.ofNat 8 (v.toNat / 2 + 128 * c.toNat) := by
  have hfree : v >>> 1 &&& (BitVec.ofBool c).setWidth 8 <<< 7 = 0#8 := by revert v c; decide
  rw [← BitVec.add_eq_or_of_and_eq_zero _ _ hfree, shiftRight_eq_ofNat, BitVec.ofNat_add]
  congr 1
  cases c <;> rfl

theorem aslResult_eq (v : Byte) (c : Cpu) : aslResult v c.p = ⟨(doubled v c).1, (doubled v c).2⟩ := by
  simp only [aslResult, shiftLeft_eq_ofNat, Flags.setNZ_eq_nzOf, testBit_seven_eq_decide]
  rfl

theorem lsrResult_eq (v : Byte) (c : Cpu) : lsrResult v c.p = ⟨(halved v c).1, (halved v c).2⟩ := by
  simp only [lsrResult, shiftRight_eq_ofNat, Flags.setNZ_eq_nzOf, testBit_zero_eq_decide]
  rfl

theorem rolResult_eq (v : Byte) (c : Cpu) : rolResult v c.p = ⟨(rotatedLeft v c).1, (rotatedLeft v c).2⟩ := by
  simp only [rolResult, rotateLeft_eq_ofNat, Flags.setNZ_eq_nzOf, testBit_seven_eq_decide]
  rfl

theorem rorResult_eq (v : Byte) (c : Cpu) : rorResult v c.p = ⟨(rotatedRight v c).1, (rotatedRight v c).2⟩ := by
  simp only [rorResult, rotateRight_eq_ofNat, Flags.setNZ_eq_nzOf, testBit_zero_eq_decide]
  rfl

theorem modifies_of_asl {i : Instr} {op : Nat} {m : AddrMode}
    (hi : ∀ s, exec i s = modifyingInstr op (.mem m) aslResult s) : modifies doubled i op m :=
  modifies_of_modifyingInstr aslResult_eq hi

theorem modifies_of_lsr {i : Instr} {op : Nat} {m : AddrMode}
    (hi : ∀ s, exec i s = modifyingInstr op (.mem m) lsrResult s) : modifies halved i op m :=
  modifies_of_modifyingInstr lsrResult_eq hi

theorem modifies_of_rol {i : Instr} {op : Nat} {m : AddrMode}
    (hi : ∀ s, exec i s = modifyingInstr op (.mem m) rolResult s) : modifies rotatedLeft i op m :=
  modifies_of_modifyingInstr rolResult_eq hi

theorem modifies_of_ror {i : Instr} {op : Nat} {m : AddrMode}
    (hi : ∀ s, exec i s = modifyingInstr op (.mem m) rorResult s) : modifies rotatedRight i op m :=
  modifies_of_modifyingInstr rorResult_eq hi

/-- Settles O17: each form applies its shift or rotate to its byte. -/
theorem shiftsAndRotates : Obligations.ShiftsAndRotates := by
  unfold Obligations.ShiftsAndRotates
  exact ⟨modifiesA_of_modifyingInstr aslResult_eq fun _ => rfl,
    fun _ => modifies_of_asl fun _ => rfl, fun _ => modifies_of_asl fun _ => rfl,
    fun _ => modifies_of_asl fun _ => rfl, fun _ => modifies_of_asl fun _ => rfl,
    modifiesA_of_modifyingInstr lsrResult_eq fun _ => rfl,
    fun _ => modifies_of_lsr fun _ => rfl, fun _ => modifies_of_lsr fun _ => rfl,
    fun _ => modifies_of_lsr fun _ => rfl, fun _ => modifies_of_lsr fun _ => rfl,
    modifiesA_of_modifyingInstr rolResult_eq fun _ => rfl,
    fun _ => modifies_of_rol fun _ => rfl, fun _ => modifies_of_rol fun _ => rfl,
    fun _ => modifies_of_rol fun _ => rfl, fun _ => modifies_of_rol fun _ => rfl,
    modifiesA_of_modifyingInstr rorResult_eq fun _ => rfl,
    fun _ => modifies_of_ror fun _ => rfl, fun _ => modifies_of_ror fun _ => rfl,
    fun _ => modifies_of_ror fun _ => rfl, fun _ => modifies_of_ror fun _ => rfl⟩

/-! ### TRB, TSB, RMBn and SMBn (R332 to R335) -/

theorem trbResult_eq (v : Byte) (c : Cpu) :
    trbResult c.a v c.p = ⟨(tested false v c).1, (tested false v c).2⟩ := by
  have hnot : c.a ^^^ 0xFF#8 = ~~~c.a := BitVec.xor_allOnes
  simp only [trbResult, hnot]
  rfl

theorem tsbResult_eq (v : Byte) (c : Cpu) : tsbResult c.a v c.p = ⟨(tested true v c).1, (tested true v c).2⟩ := rfl

theorem modifies_of_trb {i : Instr} {op : Nat} {m : AddrMode}
    (hi : ∀ s, exec i s = modifyingInstr op (.mem m) (trbResult s.cpu.a) s) : modifies (tested false) i op m :=
  modifies_of_modifyingInstr (f := fun c => trbResult c.a) trbResult_eq hi

theorem modifies_of_tsb {i : Instr} {op : Nat} {m : AddrMode}
    (hi : ∀ s, exec i s = modifyingInstr op (.mem m) (tsbResult s.cpu.a) s) : modifies (tested true) i op m :=
  modifies_of_modifyingInstr (f := fun c => tsbResult c.a) tsbResult_eq hi

theorem modifies_of_rmb {n : Nat} {i : Instr} {op : Nat} {z : Byte}
    (hi : ∀ s, exec i s = bitModifyInstr op (rmbValue n) z s) : modifies (bitPut n false) i op (.zp z) := by
  refine modifies_of_modifyingInstr (f := fun _ v p => ⟨rmbValue n v, p⟩) (fun v c => ?_) hi
  have hnot : bitMask n ^^^ 0xFF#8 = ~~~(1#8 <<< n) := BitVec.xor_allOnes
  simp only [rmbValue, hnot]
  rfl

theorem modifies_of_smb {n : Nat} {i : Instr} {op : Nat} {z : Byte}
    (hi : ∀ s, exec i s = bitModifyInstr op (smbValue n) z s) : modifies (bitPut n true) i op (.zp z) :=
  modifies_of_modifyingInstr (f := fun _ v p => ⟨smbValue n v, p⟩) (fun _ _ => rfl) hi

/-- Settles O34: TRB and TSB test and merge `A`, RMBn and SMBn put one bit. -/
theorem bitModifies : Obligations.BitModifies := by
  unfold Obligations.BitModifies
  exact ⟨fun _ => modifies_of_trb fun _ => rfl, fun _ => modifies_of_trb fun _ => rfl,
    fun _ => modifies_of_tsb fun _ => rfl, fun _ => modifies_of_tsb fun _ => rfl,
    fun _ => modifies_of_rmb fun _ => rfl, fun _ => modifies_of_rmb fun _ => rfl,
    fun _ => modifies_of_rmb fun _ => rfl, fun _ => modifies_of_rmb fun _ => rfl,
    fun _ => modifies_of_rmb fun _ => rfl, fun _ => modifies_of_rmb fun _ => rfl,
    fun _ => modifies_of_rmb fun _ => rfl, fun _ => modifies_of_rmb fun _ => rfl,
    fun _ => modifies_of_smb fun _ => rfl, fun _ => modifies_of_smb fun _ => rfl,
    fun _ => modifies_of_smb fun _ => rfl, fun _ => modifies_of_smb fun _ => rfl,
    fun _ => modifies_of_smb fun _ => rfl, fun _ => modifies_of_smb fun _ => rfl,
    fun _ => modifies_of_smb fun _ => rfl, fun _ => modifies_of_smb fun _ => rfl⟩

end Sys2Proof.Machine

/-! Branches and jumps (`45_branch.md`, `46_jump_subroutine.md` R270 to R273) on numbers. -/

namespace Sys2Proof.Machine

open Sys2Proof.Config Sys2Proof.Claims

/-! ### Branches (R163, R250, R251) -/

theorem branchTarget_eq_target (next : Word) (r : Byte) : branchTarget next r = target next r := by
  rw [branchTarget, target, BitVec.ofInt_add, BitVec.ofInt_natCast, BitVec.ofNat_toNat, BitVec.setWidth_eq]
  rfl

theorem pageCross_eq_decide (a b : Word) : pageCross a b = decide (a.toNat / 256 ≠ b.toNat / 256) := by
  simp only [pageCross, ne_eq, ← BitVec.toNat_inj, hiByte_toNat]

theorem branchPenalty_eq (next goal : Word) (taken : Bool) :
    branchPenalty next goal taken =
      if taken then (if goal.toNat / 256 = next.toNat / 256 then 1 else 2) else 0 := by
  cases taken
  · rfl
  · rw [branchPenalty, pageCross_eq_decide, if_pos rfl, if_pos rfl]
    by_cases h : goal.toNat / 256 = next.toNat / 256
    · simp [h]
    · simp [h, Ne.symm h]

theorem branches_of_branchInstr {i : Byte → Instr} {op : Nat} {taken : State → Bool}
    (hi : ∀ r s, exec (i r) s = branchInstr op r (taken s) s) : branches i op taken := by
  intro r s
  rw [hi]
  simp only [branchInstr, branchPenalty_eq, branchTarget_eq_target]
  cases taken s <;> rfl

/-- Settles O19: each branch is the one branch of the model with its flag as the condition. -/
theorem conditionalBranches : Obligations.ConditionalBranches := by
  unfold Obligations.ConditionalBranches
  and_intros
  all_goals exact branches_of_branchInstr fun _ _ => rfl

/-! ### Branches on a bit (R149, R261, R262) -/

theorem branches_of_bitBranchInstr {i : Byte → Instr} {op n : Nat} {whenSet : Bool} {z : Byte}
    (hi : ∀ r s, exec (i r) s = bitBranchInstr op n whenSet z r s) :
    branches i op fun s => (s.bus.ram.read z.toNat).getLsbD n == whenSet := by
  refine branches_of_branchInstr fun r s => ?_
  rw [hi, bitBranchInstr, memRead_zext16]
  rfl

theorem branches_of_bbr {i : Byte → Instr} {op n : Nat} {z : Byte}
    (hi : ∀ r s, exec (i r) s = bitBranchInstr op n false z r s) :
    branches i op fun s => !(s.bus.ram.read z.toNat).getLsbD n := by
  simpa only [beq_false] using branches_of_bitBranchInstr hi

theorem branches_of_bbs {i : Byte → Instr} {op n : Nat} {z : Byte}
    (hi : ∀ r s, exec (i r) s = bitBranchInstr op n true z r s) :
    branches i op fun s => (s.bus.ram.read z.toNat).getLsbD n := by
  simpa only [beq_true] using branches_of_bitBranchInstr hi

/-- Settles O20: BBRn branches on a clear bit, BBSn on a set one. -/
theorem bitBranches : Obligations.BitBranches := by
  unfold Obligations.BitBranches
  refine ⟨?_, ?_, ?_, ?_, ?_, ?_, ?_, ?_, fun _ => branches_of_bbs fun _ _ => rfl,
    fun _ => branches_of_bbs fun _ _ => rfl, fun _ => branches_of_bbs fun _ _ => rfl,
    fun _ => branches_of_bbs fun _ _ => rfl, fun _ => branches_of_bbs fun _ _ => rfl,
    fun _ => branches_of_bbs fun _ _ => rfl, fun _ => branches_of_bbs fun _ _ => rfl,
    fun _ => branches_of_bbs fun _ _ => rfl⟩
  all_goals exact fun _ => branches_of_bbr fun _ _ => rfl

/-! ### Jumps (R271 to R273) -/

theorem wordOf_eq_word (hi lo : Byte) : wordOf hi lo = word hi lo := by
  have hhi := hi.isLt
  have hlo := lo.isLt
  apply BitVec.eq_of_toNat_eq
  rw [wordOf_toNat, word, BitVec.toNat_ofNat, Nat.mod_eq_of_lt (by omega)]

theorem read16_cell (a b : Word) (s : State) : (read16 a s).2.cell b = s.cell b :=
  State.cell_congr (read16_cfg a s) (read16_bus a s) b

theorem jumpsThrough_of_jumpIndirect {i : Instr} {op : Nat} {ptr : State → Word}
    (hi : ∀ s, exec i s = jumpIndirect op (ptr s) s) : jumpsThrough i op ptr := by
  intro s
  refine ⟨_, hi s, ?_⟩
  rw [State.chargeOp_false, State.setPc_cpu, read16_cpu]
  refine ⟨rfl, ?cpu, fun b => read16_cell (ptr s) b s, fun hlo hhi => ?plain⟩
  case cpu =>
    simp only [cyclesAfter, State.setPc_cfg, State.setPc_cpu, memRead_cfg, memRead_cpu, read16, wordOf_eq_word]
  case plain =>
    rw [read16_of_not_io hlo hhi, wordOf_eq_word]
    exact ⟨rfl, rfl⟩

/-- Settles O21: the absolute jump is a change of `PC`, the other two read the word of their pointer. -/
theorem jumps : Obligations.Jumps := by
  unfold Obligations.Jumps
  refine ⟨fun a => ?absolute, fun a => jumpsThrough_of_jumpIndirect fun _ => rfl,
    fun a => jumpsThrough_of_jumpIndirect fun s => ?indexed⟩
  case absolute => exact changesCpu_of_implied (fun _ => rfl) (fun _ => rfl) fun _ => rfl
  case indexed =>
    have hptr : BitVec.ofNat 16 (a.toNat + s.cpu.x.toNat) = a + zext16 s.cpu.x := by
      rw [BitVec.ofNat_add, BitVec.ofNat_toNat, BitVec.setWidth_eq, zext16, BitVec.ofNat_toNat]
    rw [hptr]
    rfl

end Sys2Proof.Machine

/-! The stack, the subroutine call, the trap entries and the returns (`47_stack.md`, `46_jump_subroutine.md` R274 to R277,
`60_exceptions.md` R550, R551, R554), `reset()` (`70_reset_and_hazards.md` R590) and the unmapped opcodes
(`49_bit_system.md` R341, R342). -/

namespace Sys2Proof.Machine

open Sys2Proof.Config Sys2Proof.Claims

/-! ### The cells of the stack page (R15, R290) -/

/-- The model's address of a cell of the stack page and that of the statements. -/
theorem stackSlot_eq {s : State} {k sp : Byte} (h : sp = s.cpu.sp + k) : 0x100 + sp.toNat = stackSlot s k := by
  rw [stackSlot, h]

theorem stackSlot_inj (s : State) (j k : Byte) : stackSlot s j = stackSlot s k ↔ j = k := by
  rw [stackSlot, stackSlot, Nat.add_left_cancel_iff, BitVec.toNat_inj, BitVec.add_right_inj]

/-- A cell of the stack page is named from the new stack pointer as well. -/
theorem stackSlot_of_sp {s t : State} {d k j : Byte} (h : t.cpu.sp = s.cpu.sp - d) (hj : k = d + j) :
    stackSlot t k = stackSlot s j := by
  rw [stackSlot, stackSlot, h, hj, ← BitVec.add_assoc, BitVec.sub_add_cancel]

theorem hiByte_eq_ofNat (w : Word) : hiByte w = BitVec.ofNat 8 (w.toNat / 256) := by
  rw [← hiByte_toNat, BitVec.ofNat_toNat, BitVec.setWidth_eq]

theorem Memory.read_write_write (m : Memory) {a b : Nat} (h : a ≠ b) (v w : Byte) (k : Nat) :
    ((m.write a v).write b w).read k = if k = a then v else if k = b then w else m.read k := by
  simp only [Memory.read_write]
  split
  · next hb => rw [if_neg (hb.trans_ne h.symm)]
  · rfl

theorem Memory.read_write_write_write (m : Memory) {a b c : Nat} (hab : a ≠ b) (hac : a ≠ c) (hbc : b ≠ c)
    (u v w : Byte) (k : Nat) :
    (((m.write a u).write b v).write c w).read k =
      if k = a then u else if k = b then v else if k = c then w else m.read k := by
  rw [Memory.read_write_write _ hbc, Memory.read_write]
  split
  · next hb => rw [if_neg (hb.trans_ne hab.symm)]
  · split
    · next hc => rw [if_neg (hc.trans_ne hac.symm)]
    · rfl

/-! ### The status byte (`10_state.md` R33 to R41) -/

theorem pack_eq_statusByte (p : Flags) : p.pack = statusByte p := by
  obtain ⟨n, v, b, d, i, z, c⟩ := p
  revert n v b d i z c
  decide

theorem pack_or_break (p : Flags) : p.pack ||| 0x10#8 = statusByte { p with b := true } := by
  obtain ⟨n, v, b, d, i, z, c⟩ := p
  revert n v b d i z c
  decide

theorem pack_and_notBreak (p : Flags) : p.pack &&& 0xEF#8 = statusByte { p with b := false } := by
  obtain ⟨n, v, b, d, i, z, c⟩ := p
  revert n v b d i z c
  decide

theorem phpByte_eq (p : Flags) : phpByte p = statusByte { p with b := true } := by
  obtain ⟨n, v, b, d, i, z, c⟩ := p
  revert n v b d i z c
  decide

theorem unpack_eq_flagsIn (v : Byte) : Flags.unpack v = flagsIn v := rfl

theorem flagsIn_statusByte (p : Flags) : flagsIn (statusByte p) = p := by
  rw [← unpack_eq_flagsIn, ← pack_eq_statusByte, Flags.unpack_pack]

/-! ### Pushes and pulls (R291 to R298) -/

theorem pushes_of_push8 {v : Cpu → Byte} {i : Instr} {op : Nat}
    (hi : ∀ s, exec i s = impliedInstr op (push8 (v s.cpu)) s) : pushes v i op := by
  intro s
  refine ⟨_, hi s, ?_⟩
  rw [State.chargeOp_false, push8_eq, stackSlot_eq (BitVec.add_zero s.cpu.sp).symm]
  exact ⟨rfl, fun k => Memory.read_write _ _ k _, rfl⟩

/-- Settles O28: each is the push of its byte. -/
theorem pushes : Obligations.Pushes := by
  unfold Obligations.Pushes
  refine ⟨pushes_of_push8 fun _ => rfl, pushes_of_push8 fun _ => rfl, pushes_of_push8 fun _ => rfl,
    pushes_of_push8 fun s => ?_⟩
  rw [← phpByte_eq]
  rfl

theorem pulls_of_pullInto {set : State → Byte → State} {put : Byte → Cpu → Cpu} {i : Instr} {op : Nat}
    (hset : ∀ s v, (set s v).setNZ v = { s with cpu := put v s.cpu })
    (hput : ∀ v c sp n,
      { put v { c with sp := sp } with cycles := (put v { c with sp := sp }).cycles + n } =
        { put v c with sp := sp, cycles := c.cycles + n })
    (hi : ∀ s, exec i s = impliedInstr op (pullInto set) s) : pulls put i op := by
  intro s
  rw [hi, impliedInstr, State.chargeOp_false, pullInto, pull8_eq, stackSlot_eq rfl, hset]
  exact congrArg (fun c => Host.Outcome.next { s with cpu := c }) (hput _ s.cpu _ _)

theorem pullStatus_eq (s : State) :
    pullStatus s = { s with cpu := { s.cpu with
      sp := s.cpu.sp + 1, p := flagsIn (s.bus.ram.read (stackSlot s 1)) } } := by
  rw [pullStatus, pull8_eq, stackSlot_eq rfl]
  rfl

/-- Settles O29: a pull into a register sets N and Z, the pull of the status sets every flag. -/
theorem pulls : Obligations.Pulls := by
  unfold Obligations.Pulls
  refine ⟨?pla, ?plx, ?ply, fun s => ?plp⟩
  case pla => exact pulls_of_pullInto State.setA_setNZ_eq (fun _ _ _ _ => rfl) fun _ => rfl
  case plx => exact pulls_of_pullInto State.setX_setNZ_eq (fun _ _ _ _ => rfl) fun _ => rfl
  case ply => exact pulls_of_pullInto State.setY_setNZ_eq (fun _ _ _ _ => rfl) fun _ => rfl
  case plp =>
    have hplp : exec .plp s = .next ((pullStatus s).chargeOp 0x28 false) := rfl
    rw [hplp, State.chargeOp_false, pullStatus_eq]
    rfl

/-! ### Any number of pushes (R290) -/

/-- Settles O30, by induction on the last push: the newest byte stands just above `SP`, the others one cell higher than
before. -/
theorem stackWrapsWithinItsPage : Obligations.StackWrapsWithinItsPage := by
  unfold Obligations.StackWrapsWithinItsPage
  intro bytes s
  induction bytes using List.reverseRecOn with
  | nil => exact ⟨s, rfl, rfl, (BitVec.sub_zero _).symm, fun _ _ => rfl, fun _ _ => rfl⟩
  | append_singleton bytes v ih =>
    obtain ⟨t, ht, hframe, hsp, hpage, hrest⟩ := ih
    refine ⟨push8 v t, by rw [List.foldl_append, ht]; rfl, ?_⟩
    rw [push8_eq]
    refine ⟨?frame, ?sp, fun k hk => ?page, fun k hk => ?rest⟩
    case frame => rw [hframe]
    case sp =>
      simp only [hsp, List.length_append, List.length_singleton, BitVec.ofNat_add]
      exact BitVec.sub_sub _ _ _
    case page =>
      simp only [BitVec.sub_add_cancel, Memory.read_write]
      rcases k with _ | k
      · simp
      · have hslot : t.cpu.sp + BitVec.ofNat 8 (k + 1) = t.cpu.sp + 1 + BitVec.ofNat 8 k := by
          rw [Nat.add_comm, BitVec.ofNat_add, BitVec.add_assoc]
          rfl
        have hother : (t.cpu.sp + BitVec.ofNat 8 (k + 1)).toNat ≠ t.cpu.sp.toNat := by
          have := t.cpu.sp.isLt
          rw [BitVec.toNat_add, BitVec.toNat_ofNat]
          omega
        rw [if_neg (by omega), hslot, hpage k (by omega)]
        simp
    case rest =>
      have := t.cpu.sp.isLt
      rw [Memory.read_write_other _ _ (by omega), hrest k hk]

/-! ### Subroutines (R274, R277) -/

theorem callSubroutine_eq (a : Word) (s : State) :
    callSubroutine a s =
      { s with
        cpu := { s.cpu with pc := a, sp := s.cpu.sp - 2 }
        bus := { s.bus with
          ram := (s.bus.ram.write (stackSlot s 0) (BitVec.ofNat 8 ((s.cpu.pc - 1).toNat / 256))).write
            (stackSlot s (-1)) (BitVec.ofNat 8 (s.cpu.pc - 1).toNat) } } := by
  rw [callSubroutine, push16_eq, hiByte_eq_ofNat, ← ofNat_toNat_eq_loByte, stackSlot_eq (BitVec.add_zero _).symm,
    stackSlot_eq (BitVec.sub_eq_add_neg _ _), BitVec.sub_sub]
  rfl

/-- Settles O22: two pushes into two different cells. -/
theorem jumpToSubroutine : Obligations.JumpToSubroutine := by
  unfold Obligations.JumpToSubroutine
  intro a s
  refine ⟨(callSubroutine a s).chargeOp 0x20 false, rfl, ?_⟩
  rw [State.chargeOp_false, callSubroutine_eq]
  refine ⟨rfl, Memory.read_write_write _ ?_ _ _, rfl⟩
  rw [Ne, stackSlot_inj]
  decide

theorem returnSubroutine_eq (s : State) :
    returnSubroutine s = { s with cpu := { s.cpu with
      pc := word (s.bus.ram.read (stackSlot s 2)) (s.bus.ram.read (stackSlot s 1)) + 1, sp := s.cpu.sp + 2 } } := by
  rw [returnSubroutine, pull16_eq, BitVec.add_assoc, stackSlot_eq rfl, stackSlot_eq rfl, wordOf_eq_word]
  rfl

/-- Settles O23: two pulls and the word they give. -/
theorem returnFromSubroutine : Obligations.ReturnFromSubroutine := by
  unfold Obligations.ReturnFromSubroutine
  intro s
  have hrts : exec .rts s = .next ((returnSubroutine s).chargeOp 0x60 false) := rfl
  rw [hrts, State.chargeOp_false, returnSubroutine_eq]
  rfl

/-! ### Trap entries and the return (R275, R276, R550, R551) -/

/-- Every trap entry makes the three pushes, takes the flags of its kind and loads its vector. -/
theorem takeTrap_entered (k : Trap) (s : State) :
    entered s (takeTrap k s) (k.returnPc s.cpu.pc) (k.pushedStatus s.cpu.p) (k.entryFlags s.cpu.p) k.vector := by
  have hne {j l : Byte} (h : j ≠ l) : stackSlot s j ≠ stackSlot s l := by rwa [Ne, stackSlot_inj]
  have hram : trapRam k s =
      ((s.bus.ram.write (stackSlot s 0) (BitVec.ofNat 8 ((k.returnPc s.cpu.pc).toNat / 256))).write
        (stackSlot s (-1)) (BitVec.ofNat 8 (k.returnPc s.cpu.pc).toNat)).write
        (stackSlot s (-2)) (k.pushedStatus s.cpu.p) := by
    simp only [trapRam, hiByte_eq_ofNat, ← ofNat_toNat_eq_loByte, BitVec.sub_sub]
    rw [stackSlot_eq (BitVec.add_zero _).symm, stackSlot_eq (BitVec.sub_eq_add_neg _ _),
      stackSlot_eq (BitVec.sub_eq_add_neg _ _)]
    rfl
  have hread := Memory.read_write_write_write s.bus.ram (hne (j := 0) (l := -1) (by decide))
    (hne (j := 0) (l := -2) (by decide)) (hne (j := -1) (l := -2) (by decide))
    (BitVec.ofNat 8 ((k.returnPc s.cpu.pc).toNat / 256)) (BitVec.ofNat 8 (k.returnPc s.cpu.pc).toNat)
    (k.pushedStatus s.cpu.p)
  rw [takeTrap_eq, hram, vectorWord, wordOf_eq_word, BitVec.sub_sub, BitVec.sub_sub]
  cases k <;> exact ⟨rfl, hread, rfl, rfl, rfl, rfl, rfl, rfl, rfl, rfl, rfl⟩

/-- The entry of a trap says nothing of `CYCLES`. -/
theorem entered_cycles {s t : State} {ret vector : Word} {status : Byte} {flags : Flags}
    (h : entered s t ret status flags vector) (n : Counter) :
    entered s { t with cpu := { t.cpu with cycles := n } } ret status flags vector := by
  obtain ⟨hframe, hrest⟩ := h
  exact ⟨congrArg (fun u : State => { u with cpu := { t.cpu with cycles := n } }) hframe, hrest⟩

theorem takeTrap_brk_entered (s : State) :
    entered s (takeTrap .brk s) (s.cpu.pc + 1) (statusByte { s.cpu.p with b := true })
      { s.cpu.p with i := true, d := false } 0xFFFE := by
  have h := takeTrap_entered .brk s
  rwa [show Trap.pushedStatus .brk s.cpu.p = statusByte { s.cpu.p with b := true } from pack_or_break _] at h

theorem takeTrap_irq_entered (s : State) :
    entered s (takeTrap .irq s) s.cpu.pc (statusByte { s.cpu.p with b := false }) { s.cpu.p with i := true } 0xFFFE := by
  have h := takeTrap_entered .irq s
  rwa [show Trap.pushedStatus .irq s.cpu.p = statusByte { s.cpu.p with b := false } from pack_and_notBreak _] at h

theorem takeTrap_nmi_entered (s : State) :
    entered s (takeTrap .nmi s) s.cpu.pc (statusByte s.cpu.p) { s.cpu.p with i := true } 0xFFFA := by
  have h := takeTrap_entered .nmi s
  rwa [show Trap.pushedStatus .nmi s.cpu.p = statusByte s.cpu.p from pack_eq_statusByte _] at h

/-- The state after BRK. -/
theorem exec_brk_entered (s : State) : ∃ t, exec .brk s = .next t ∧
    entered s t (s.cpu.pc + 1) (statusByte { s.cpu.p with b := true }) { s.cpu.p with i := true, d := false } 0xFFFE ∧
    t.cpu.wait = s.cpu.wait ∧ t.cpu.cycles = cyclesAfter s 0x00 0 := by
  refine ⟨(takeTrap .brk s).chargeOp 0x00 false, rfl, ?_⟩
  rw [State.chargeOp_false]
  refine ⟨entered_cycles (takeTrap_brk_entered s) _, ?_⟩
  rw [takeTrap_eq]
  exact ⟨rfl, rfl⟩

/-- Settles O24: BRK is a trap entry that charges its opcode and leaves the wait latch alone. -/
theorem breakEntersTheHandler : Obligations.BreakEntersTheHandler := by
  unfold Obligations.BreakEntersTheHandler
  exact exec_brk_entered

/-- Settles O25: three pulls, the status and the word of the other two. -/
theorem returnFromInterrupt : Obligations.ReturnFromInterrupt := by
  unfold Obligations.ReturnFromInterrupt
  intro s
  have hrti : exec .rti s = .next ((returnFromTrap s).chargeOp 0x40 false) := rfl
  have hslot (k : Byte) : 0x100 + (s.cpu.sp + k).toNat = stackSlot s k := rfl
  rw [hrti, State.chargeOp_false, returnFromTrap_eq]
  simp only [BitVec.add_assoc, hslot, wordOf_eq_word, unpack_eq_flagsIn]
  rfl

/-- Settles O26: both are trap entries that clear the wait latch and charge the entry. -/
theorem interruptEntries : Obligations.InterruptEntries := by
  unfold Obligations.InterruptEntries
  intro s
  refine ⟨⟨takeTrap_irq_entered s, ?_⟩, takeTrap_nmi_entered s, ?_⟩
  all_goals
    rw [takeTrap_eq]
    exact ⟨rfl, rfl⟩

/-! ### The returns after the entries -/

theorem word_of_toNat (w : Word) : word (BitVec.ofNat 8 (w.toNat / 256)) (BitVec.ofNat 8 w.toNat) = w := by
  rw [← hiByte_eq_ofNat, ofNat_toNat_eq_loByte, ← wordOf_eq_word, wordOf_hiByte_loByte]

/-- RTI after a trap entry: the pushed address and the pushed flags, and the registers of before. -/
theorem backAt_rti_of_entered {s t : State} {ret vector : Word} {status : Byte} {flags : Flags}
    (h : entered s t ret status flags vector) :
    ∃ u, exec .rti t = .next u ∧ backAt s u ret (flagsIn status) := by
  obtain ⟨-, hread, hsp, -, -, ha, hx, hy, -⟩ := h
  have h1 : t.bus.ram.read (stackSlot t 1) = status := by
    rw [hread, stackSlot_of_sp hsp (j := -2) (by decide), if_neg (by rw [stackSlot_inj]; decide),
      if_neg (by rw [stackSlot_inj]; decide), if_pos rfl]
  have h2 : t.bus.ram.read (stackSlot t 2) = BitVec.ofNat 8 ret.toNat := by
    rw [hread, stackSlot_of_sp hsp (j := -1) (by decide), if_neg (by rw [stackSlot_inj]; decide), if_pos rfl]
  have h3 : t.bus.ram.read (stackSlot t 3) = BitVec.ofNat 8 (ret.toNat / 256) := by
    rw [hread, stackSlot_of_sp hsp (j := 0) (by decide), if_pos rfl]
  refine ⟨_, returnFromInterrupt t, ?_⟩
  rw [h1, h2, h3, word_of_toNat]
  exact ⟨rfl, rfl, (congrArg (· + 3) hsp).trans (BitVec.sub_add_cancel _ _), ha, hx, hy⟩

/-- RTS after JSR. -/
theorem backAt_rts_of_jsr (a : Word) (s : State) :
    ∃ t u, exec (.jsr a) s = .next t ∧ exec .rts t = .next u ∧ backAt s u s.cpu.pc s.cpu.p := by
  obtain ⟨t, hjsr, -, hread, hcpu⟩ := jumpToSubroutine a s
  have hsp : t.cpu.sp = s.cpu.sp - 2 := by rw [hcpu]
  have h1 : t.bus.ram.read (stackSlot t 1) = BitVec.ofNat 8 (s.cpu.pc - 1).toNat := by
    rw [hread, stackSlot_of_sp hsp (j := -1) (by decide), if_neg (by rw [stackSlot_inj]; decide), if_pos rfl]
  have h2 : t.bus.ram.read (stackSlot t 2) = BitVec.ofNat 8 ((s.cpu.pc - 1).toNat / 256) := by
    rw [hread, stackSlot_of_sp hsp (j := 0) (by decide), if_pos rfl]
  refine ⟨t, _, hjsr, returnFromSubroutine t, ?_⟩
  rw [h1, h2, word_of_toNat, BitVec.sub_add_cancel, hcpu]
  exact ⟨rfl, rfl, BitVec.sub_add_cancel _ _, rfl, rfl, rfl⟩

/-- Settles O27: the bytes that an entry pushed are the bytes that the return pulls. -/
theorem returnsUndoEntries : Obligations.ReturnsUndoEntries := by
  unfold Obligations.ReturnsUndoEntries
  intro s
  refine ⟨fun a => backAt_rts_of_jsr a s, ?irq, ?nmi, ?brk⟩
  case irq => simpa only [flagsIn_statusByte] using backAt_rti_of_entered (takeTrap_irq_entered s)
  case nmi => simpa only [flagsIn_statusByte] using backAt_rti_of_entered (takeTrap_nmi_entered s)
  case brk =>
    obtain ⟨t, hbrk, hentered, -⟩ := exec_brk_entered s
    obtain ⟨u, hrti, hback⟩ := backAt_rti_of_entered hentered
    rw [flagsIn_statusByte] at hback
    exact ⟨t, u, hbrk, hrti, hback⟩

/-! ### `reset()` (R590) -/

/-- Settles O45: the vector of the reset stands in the ROM, so that reading it changes nothing. -/
theorem cpuResetLeaves : Obligations.CpuResetLeaves := by
  unfold Obligations.CpuResetLeaves
  intro s
  rw [cpuReset, read16_of_not_io (by decide) (by decide), wordOf_eq_word]
  rfl

/-! ### Unmapped opcodes and opcode $DB (R341, R342) -/

theorem doesNothing_of_unmappedInstr {when' : State → Prop} {i : Instr} {op : Nat}
    (hi : ∀ s, when' s → exec i s = unmappedInstr op s) : doesNothing when' i op := by
  intro s hs
  rw [hi s hs, unmappedInstr, impliedInstr, State.chargeOp_false]
  rfl

theorem exec_unmappedDB_of_nop {s : State} (h : s.cfg.opcodeDb = .nop) : exec .unmappedDB s = unmappedInstr 0xDB s := by
  show execUnmappedDB s = _
  simp only [execUnmappedDB, h]

theorem exec_unmappedDB_of_stop {s : State} (h : s.cfg.opcodeDb = .stop) :
    exec .unmappedDB s = .next { s with cpu := { s.cpu with stopped := true, cycles := s.cpu.cycles + 3 } } := by
  show execUnmappedDB s = _
  simp only [execUnmappedDB, h]
  rfl

theorem takeTrap_stopped (k : Trap) (s : State) : (takeTrap k s).cpu.stopped = s.cpu.stopped := by
  obtain ⟨-, -, -, -, -, -, -, -, hstopped, -⟩ := takeTrap_entered k s
  exact hstopped

theorem cpuStep_of_stopped {s : State} (h : s.cpu.stopped = true) :
    cpuStep s = .next (s.charge s.cfg.waitStepCycles) := by
  rw [cpuStep, cpuStepWith, if_pos (by rw [State.idle, h, Bool.or_true])]

/-- Settles O37: the mapped forms by the one unmapped instruction, $DB by its setting, the stopped CPU by its latch. -/
theorem unmappedOpcodesDoNothing : Obligations.UnmappedOpcodesDoNothing := by
  unfold Obligations.UnmappedOpcodesDoNothing
  iterate 44 refine ⟨doesNothing_of_unmappedInstr fun _ _ => rfl, ?_⟩
  refine ⟨doesNothing_of_unmappedInstr fun _ => exec_unmappedDB_of_nop, fun _ => exec_unmappedDB_of_stop, fun s hs => ?_⟩
  refine ⟨cpuStep_of_stopped hs, (takeTrap_stopped .irq s).trans hs, (takeTrap_stopped .nmi s).trans hs, ?_⟩
  rw [cpuResetLeaves]

end Sys2Proof.Machine

/-! What no instruction touches (`20_memory.md` R96, R106; `10_state.md` R45, R46): outside the CPU by the reads and writes
it makes, and `ICOUNT` by its form. -/

namespace Sys2Proof.Machine

open Sys2Proof.Config Sys2Proof.Claims

/-! ### No write reaches the frame buffer -/

@[simp] theorem Video.portWrite_fb (v : Video) (one : Bool) (b : Byte) : (v.portWrite one b).fb = v.fb :=
  Video.advance_fb _ one

theorem Video.regWrite_fb (v : Video) (cfg : Params) (r : VideoReg) (b : Byte) : (v.regWrite cfg r b).fb = v.fb := by
  have haddr (f : Cursor → Cursor) : (v.writeAddr f).fb = v.fb := by
    rw [Video.writeAddr, Video.reloadLatch, Video.setCursor_fb, Video.setCursor_fb]
  cases r with
  | addrL => exact haddr _
  | addrM => exact haddr _
  | addrH => exact haddr _
  | ctrl =>
    cases h : testBit b 7
    · simp only [Video.regWrite, Video.writeCtrl, h, Bool.false_eq_true, if_false]
    · simp only [Video.regWrite, Video.writeCtrl, h, if_true, Video.reset_fb]
  | layer one k => cases one <;> rfl
  | _ => rfl

@[simp] theorem memWrite_fb (a : Word) (v : Byte) (s : State) : (memWrite a v s).video.fb = s.video.fb := by
  have hport (p : Bool) : (dataPortWrite p v s).video.fb = s.video.fb := by
    rcases dataPortWrite_cases p v s with e | ⟨_, e⟩ <;> rw [e, Video.portWrite_fb]
  rcases memWrite_cases a v s with e | ⟨_, e⟩ | ⟨_, e⟩ | ⟨_, p, e⟩ | ⟨_, r, e⟩ | ⟨_, _, _, e⟩ | ⟨_, _, e⟩ <;> rw [e]
  case inr.inr.inr.inl => exact hport p
  case inr.inr.inr.inr.inl => exact Video.regWrite_fb _ _ r v

/-- Outside the CPU, what the ports of the host own is that of `s`. -/
def SamePorts (s u : State) : Prop :=
  u.bus.rom = s.bus.rom ∧ u.bus.ramBank = s.bus.ramBank ∧ u.bus.romBank = s.bus.romBank ∧ u.cfg = s.cfg ∧
    u.pins = s.pins ∧ u.script = s.script ∧ u.video.fb = s.video.fb

theorem cpuClosed_samePorts (s : State) : CpuClosed (SamePorts s) where
  cpu _ _ h := h
  read a u h := by
    simp only [SamePorts, memRead_bus, memRead_cfg, memRead_pins, memRead_script, memRead_fb]
    exact h
  write a v u h := by
    simp only [SamePorts, memWrite_rom, memWrite_ramBank, memWrite_romBank, memWrite_cfg, memWrite_pins,
      memWrite_script, memWrite_fb]
    exact h

/-! ### No instruction counts itself (`10_state.md` R45) -/

/-- The result is a next state with the same `ICOUNT`. -/
def KeepsIcount (s : State) (r : Result) : Prop := ∃ t, r = .next t ∧ t.cpu.icount = s.cpu.icount

theorem keepsIcount_reading {f : Byte → State → State} (hf : ∀ v t, (f v t).cpu.icount = t.cpu.icount) (op : Nat)
    (o : Operand) (s : State) : KeepsIcount s (readingInstr op o f s) :=
  ⟨_, rfl, (hf _ _).trans (by rw [Operand.read_cpu])⟩

theorem keepsIcount_loadA (op : Nat) (o : Operand) (s : State) : KeepsIcount s (loadA op o s) :=
  keepsIcount_reading (fun _ _ => by rfl) op o s

theorem keepsIcount_loadX (op : Nat) (o : Operand) (s : State) : KeepsIcount s (loadX op o s) :=
  keepsIcount_reading (fun _ _ => by rfl) op o s

theorem keepsIcount_loadY (op : Nat) (o : Operand) (s : State) : KeepsIcount s (loadY op o s) :=
  keepsIcount_reading (fun _ _ => by rfl) op o s

theorem keepsIcount_combine (f : Byte → Byte → Byte) (op : Nat) (o : Operand) (s : State) :
    KeepsIcount s (combine f op o s) :=
  keepsIcount_reading (fun _ _ => by rfl) op o s

theorem keepsIcount_compareWith (reg : Byte) (op : Nat) (o : Operand) (s : State) :
    KeepsIcount s (compareWith reg op o s) :=
  keepsIcount_reading (fun _ _ => by rfl) op o s

theorem keepsIcount_accumulate (f : Byte → Byte → Flags → FlaggedByte) (op : Nat) (o : Operand) (s : State) :
    KeepsIcount s (accumulate f op o s) :=
  keepsIcount_reading (fun _ _ => by rfl) op o s

theorem keepsIcount_bitMemory (op : Nat) (m : AddrMode) (s : State) : KeepsIcount s (bitMemoryInstr op m s) :=
  keepsIcount_reading (fun _ _ => by rfl) op (.mem m) s

theorem keepsIcount_bitImmediate (op : Nat) (v : Byte) (s : State) : KeepsIcount s (bitImmediateInstr op v s) :=
  keepsIcount_reading (fun _ _ => by rfl) op (.imm v) s

theorem keepsIcount_storing (op : Nat) (m : AddrMode) (v : Byte) (s : State) :
    KeepsIcount s (storingInstr op m v s) :=
  ⟨_, rfl, show (memWrite _ v s).cpu.icount = _ by rw [memWrite_cpu]⟩

theorem keepsIcount_modifying (op : Nat) (o : Target) (f : Byte → Flags → FlaggedByte) (s : State) :
    KeepsIcount s (modifyingInstr op o f s) := by
  cases o with
  | acc => exact ⟨_, rfl, rfl⟩
  | mem m => exact ⟨_, modifyingInstr_mem op m f s, rfl⟩

theorem keepsIcount_bitModify (op : Nat) (f : Byte → Byte) (z : Byte) (s : State) :
    KeepsIcount s (bitModifyInstr op f z s) :=
  keepsIcount_modifying op (.mem (.zp z)) _ s

theorem keepsIcount_implied {f : State → State} {s : State} (h : (f s).cpu.icount = s.cpu.icount) (op : Nat) :
    KeepsIcount s (impliedInstr op f s) :=
  ⟨_, rfl, h⟩

theorem keepsIcount_unmapped (op : Nat) (s : State) : KeepsIcount s (unmappedInstr op s) := keepsIcount_implied rfl op

theorem keepsIcount_branch {s u : State} (h : u.cpu.icount = s.cpu.icount) (op : Nat) (r : Byte) (taken : Bool) :
    KeepsIcount s (branchInstr op r taken u) := by
  cases taken <;> exact ⟨_, rfl, h⟩

theorem keepsIcount_bitBranch (op n : Nat) (whenSet : Bool) (z r : Byte) (s : State) :
    KeepsIcount s (bitBranchInstr op n whenSet z r s) :=
  keepsIcount_branch (by rw [memRead_cpu]) op r _

theorem keepsIcount_jumpIndirect (op : Nat) (p : Word) (s : State) : KeepsIcount s (jumpIndirect op p s) :=
  ⟨_, rfl, show (read16 p s).2.cpu.icount = _ by rw [read16_cpu]⟩

theorem push8_icount (v : Byte) (s : State) : (push8 v s).cpu.icount = s.cpu.icount := by rw [push8_eq]

theorem pull8_icount (s : State) : (pull8 s).2.cpu.icount = s.cpu.icount := by
  rw [pull8_eq]
  rfl

theorem callSubroutine_icount (a : Word) (s : State) : (callSubroutine a s).cpu.icount = s.cpu.icount := by
  rw [callSubroutine_eq]

theorem returnSubroutine_icount (s : State) : (returnSubroutine s).cpu.icount = s.cpu.icount := by
  rw [returnSubroutine_eq]

theorem takeTrap_icount (k : Trap) (s : State) : (takeTrap k s).cpu.icount = s.cpu.icount := by
  obtain ⟨-, -, -, -, -, -, -, -, -, hicount, -⟩ := takeTrap_entered k s
  exact hicount

theorem returnFromTrap_icount (s : State) : (returnFromTrap s).cpu.icount = s.cpu.icount := by rw [returnFromTrap_eq]

/-- Every instruction answers a next state and leaves `ICOUNT` alone, by its form. -/
theorem exec_keepsIcount (i : Instr) (s : State) : KeepsIcount s (exec i s) := by
  cases i <;> simp only [exec]
  case unmappedDB =>
    cases h : s.cfg.opcodeDb with
    | nop => exact ⟨_, exec_unmappedDB_of_nop h, rfl⟩
    | stop => exact ⟨_, exec_unmappedDB_of_stop h, rfl⟩
  case staIndX | staZp | staAbs | staIndY | staIzp | staZpX | staAbsY | staAbsX | stxZp | stxAbs | stxZpY |
      styZp | styAbs | styZpX | stzZp | stzZpX | stzAbs | stzAbsX =>
    exact keepsIcount_storing _ _ _ s
  case incAcc | incZp | incAbs | incZpX | incAbsX | decAcc | decZp | decAbs | decZpX | decAbsX |
      aslAcc | aslZp | aslAbs | aslZpX | aslAbsX | lsrAcc | lsrZp | lsrAbs | lsrZpX | lsrAbsX |
      rolAcc | rolZp | rolAbs | rolZpX | rolAbsX | rorAcc | rorZp | rorAbs | rorZpX | rorAbsX |
      trbZp | trbAbs | tsbZp | tsbAbs =>
    exact keepsIcount_modifying _ _ _ s
  case rmb0 | rmb1 | rmb2 | rmb3 | rmb4 | rmb5 | rmb6 | rmb7 |
      smb0 | smb1 | smb2 | smb3 | smb4 | smb5 | smb6 | smb7 =>
    exact keepsIcount_bitModify _ _ _ s
  case bcc | bcs | beq | bne | bmi | bpl | bvc | bvs | bra => exact keepsIcount_branch (by rfl) _ _ _
  case bbr0 | bbr1 | bbr2 | bbr3 | bbr4 | bbr5 | bbr6 | bbr7 |
      bbs0 | bbs1 | bbs2 | bbs3 | bbs4 | bbs5 | bbs6 | bbs7 =>
    exact keepsIcount_bitBranch _ _ _ _ _ s
  case jmpInd | jmpAix => exact keepsIcount_jumpIndirect _ _ s
  case jsr a => exact keepsIcount_implied (callSubroutine_icount a s) _
  case rts => exact keepsIcount_implied (returnSubroutine_icount s) _
  case brk => exact keepsIcount_implied (takeTrap_icount .brk s) _
  case rti => exact keepsIcount_implied (returnFromTrap_icount s) _
  case pha | php | phx | phy => exact keepsIcount_implied (push8_icount _ s) _
  case pla | plx | ply | plp => exact keepsIcount_implied (pull8_icount s) _
  case ldaIndX | ldaZp | ldaImm | ldaAbs | ldaIndY | ldaIzp | ldaZpX | ldaAbsY | ldaAbsX =>
    exact keepsIcount_loadA _ _ s
  case ldxImm | ldxZp | ldxAbs | ldxZpY | ldxAbsY => exact keepsIcount_loadX _ _ s
  case ldyImm | ldyZp | ldyAbs | ldyZpX | ldyAbsX => exact keepsIcount_loadY _ _ s
  case andIndX | andZp | andImm | andAbs | andIndY | andIzp | andZpX | andAbsY | andAbsX |
      oraIndX | oraZp | oraImm | oraAbs | oraIndY | oraIzp | oraZpX | oraAbsY | oraAbsX |
      eorIndX | eorZp | eorImm | eorAbs | eorIndY | eorIzp | eorZpX | eorAbsY | eorAbsX =>
    exact keepsIcount_combine _ _ _ s
  case cmpIndX | cmpZp | cmpImm | cmpAbs | cmpIndY | cmpIzp | cmpZpX | cmpAbsY | cmpAbsX |
      cpxImm | cpxZp | cpxAbs | cpyImm | cpyZp | cpyAbs =>
    exact keepsIcount_compareWith _ _ _ s
  case adcIndX | adcZp | adcImm | adcAbs | adcIndY | adcIzp | adcZpX | adcAbsY | adcAbsX |
      sbcIndX | sbcZp | sbcImm | sbcAbs | sbcIndY | sbcIzp | sbcZpX | sbcAbsY | sbcAbsX =>
    exact keepsIcount_accumulate _ _ _ s
  case bitZp | bitAbs | bitZpX | bitAbsX => exact keepsIcount_bitMemory _ _ s
  case bitImm => exact keepsIcount_bitImmediate _ _ s
  case inx | iny | dex | dey | jmpAbs | clc | sec | cli | sei | cld | sed | clv | tax | tay | txa | tya | tsx | txs |
      nop | wai =>
    exact keepsIcount_implied (by rfl) _
  -- the unmapped opcodes that are left
  all_goals exact keepsIcount_unmapped _ s

/-- Settles O7: outside the CPU by the reads and writes alone, inside it by the form of the instruction. -/
theorem noInstructionTouchesWhatThePortsOwn : Obligations.NoInstructionTouchesWhatThePortsOwn := by
  unfold Obligations.NoInstructionTouchesWhatThePortsOwn
  intro i s
  obtain ⟨t, ht, hrom, hramBank, hromBank, hcfg, hpins, hscript, hfb⟩ :=
    (cpuClosed_samePorts s).exec i ⟨rfl, rfl, rfl, rfl, rfl, rfl, rfl⟩
  obtain ⟨u, hu, hicount⟩ := exec_keepsIcount i s
  obtain ⟨w, hw, hgoal⟩ := exec_keepsGoal i s
  cases hu.symm.trans ht
  cases hw.symm.trans ht
  exact ⟨t, ht, hrom, hramBank, hromBank, hcfg, hpins, hscript, hicount, hgoal, hfb⟩

end Sys2Proof.Machine

/-! The step of the machine (`30_encoding.md` R140, R141, R144; `60_exceptions.md` R545 to R547, R556, R560): the fetch of a
decoded instruction, the interrupt request and its poll, and the waiting CPU. -/

namespace Sys2Proof.Machine

open Sys2Proof.Config Sys2Proof.Claims

/-! ### The fetch of a decoded instruction (R140, R144) -/

/-- The cell `k` bytes after `PC`. -/
def fetchCell (s : State) (k : Nat) : Byte := s.cell (s.cpu.pc + BitVec.ofNat 16 k)

/-- The machine after the fetch of `n` bytes. -/
def fetched (s : State) (n : Nat) : State :=
  { s with cpu := { s.cpu with pc := s.cpu.pc + BitVec.ofNat 16 n, icount := s.cpu.icount + 1 } }

/-- The fetch of the byte after `n` fetched ones. -/
theorem fetch8_fetched {s : State} {n : Nat} (h : region (s.cpu.pc + BitVec.ofNat 16 n) ≠ .io) :
    fetch8 (fetched s n) = (fetchCell s n, fetched s (n + 1)) := by
  rw [fetch8_of_not_io (by exact h), fetched, fetched, BitVec.ofNat_add, ← BitVec.add_assoc]
  rfl

/-- Outside the I/O page the operand bytes are the cells after the opcode, and `PC` moves behind them. -/
theorem fetchOperands_fetched {s : State} {n : Nat} (hn : n ≤ 2)
    (h : ∀ k, k < n + 1 → region (s.cpu.pc + BitVec.ofNat 16 k) ≠ .io) :
    fetchOperands (n + 1) (fetched s 1) =
      ((((List.range n).map fun k => fetchCell s (k + 1)).getD 0 0,
        ((List.range n).map fun k => fetchCell s (k + 1)).getD 1 0), fetched s (n + 1)) := by
  match n, hn with
  | 0, _ => rfl
  | 1, _ =>
    simp only [fetchOperands, fetch8_fetched (h 1 (by omega))]
    rfl
  | 2, _ =>
    simp only [fetchOperands, fetch8_fetched (h 1 (by omega)), fetch8_fetched (h 2 (by omega))]
    rfl

/-- When the cells from `PC` on, none of them in the I/O page, are the bytes of an instruction, it is fetched. -/
theorem fetchInstr_of_decode {s : State} {i : Instr}
    (hio : ∀ k, k < (encode i).length → region (s.cpu.pc + BitVec.ofNat 16 k) ≠ .io)
    (h : decode ((List.range (encode i).length).map (fetchCell s)) = .ok i []) :
    fetchInstr s = (i, fetched s (encode i).length) := by
  obtain ⟨op, operands, hbytes, hlen, hi⟩ := decode_ok h
  have hn : (encode i).length = operands.length + 1 := by
    simpa only [List.length_map, List.length_range, List.append_nil, List.length_cons] using congrArg List.length hbytes
  have hle := (opcodeLength_pos_le_three op).2
  rw [hn, List.range_succ_eq_map, List.map_cons, List.append_nil, List.cons.injEq, List.map_map] at hbytes
  obtain ⟨hop, hoperands⟩ := hbytes
  rw [hn] at hio
  have h0 : region s.cpu.pc ≠ .io := by simpa only [BitVec.add_zero] using hio 0 (by omega)
  have hopcode : s.cell s.cpu.pc = op := by simpa only [fetchCell, BitVec.add_zero] using hop
  have hrest := fetchOperands_fetched (s := s) (n := operands.length) (by omega) hio
  have htail : ((List.range operands.length).map fun k => fetchCell s (k + 1)) = operands := hoperands
  rw [htail] at hrest
  rw [fetchInstr, fetch8_of_not_io h0, hopcode, ← hlen, hn]
  have hcount : (s.setPc (s.cpu.pc + 1)).countInstruction = fetched s 1 := rfl
  simp only [hcount, hrest, ← hi]

/-- Settles O5: the step of a ready machine is the fetch, `exec` and the video steps of the schedule. -/
theorem stepRunsDecodedInstruction : Obligations.StepRunsDecodedInstruction := by
  unfold Obligations.StepRunsDecodedInstruction
  intro s i hready hsched hio hdecode
  have hfetch := fetchInstr_of_decode hio hdecode
  rw [step_of_ready hready]
  simp only [tickWith, hsched, machineTickWith, cpuTickWith_of_ready hready, hfetch, fetched]
  generalize exec i _ = r
  cases r <;> rfl

/-! ### The waiting CPU (R141, R345, R556) -/

theorem cpuStepWith_of_idle {s : State} (h : s.idle = true) (run : Instr → State → Result) :
    cpuStepWith run s = .next (s.charge s.cfg.waitStepCycles) :=
  if_pos h

theorem step_of_script_nil {s : State} (hcfg : s.cfg.wellFormed = true) (hscript : s.script = []) :
    step s = tickWith exec s := by
  rw [step, stepWith, if_pos hcfg, hostPhase_of_script_nil hscript]

theorem cyclesBetween_charge (s : State) (n : Nat) : cyclesBetween s (s.charge n) = n % 2 ^ 32 := by
  rw [cyclesBetween, State.charge_cpu, BitVec.add_comm, BitVec.add_sub_cancel, BitVec.toNat_ofNat]

/-- A CPU that fetches nothing and has no request to take charges the wait step; the video steps are those of the
schedule. -/
theorem tickWith_of_idle {s : State} (hidle : s.idle = true) (hpoll : poll s = s) :
    tickWith exec s = .next (videoSteps
      (if s.cfg.schedule = .machineTick then s.cfg.waitStepCycles % 2 ^ 32 else 0) (s.charge s.cfg.waitStepCycles)) := by
  cases hsched : s.cfg.schedule with
  | machineTick =>
    simp only [tickWith, hsched, machineTickWith, cpuTickWith, hpoll, cpuStepWith_of_idle hidle, mapNext,
      cyclesBetween_charge, if_true]
  | cpuTick =>
    simp only [tickWith, hsched, cpuTickWith, hpoll, cpuStepWith_of_idle hidle]
    rfl
  | bareStep =>
    simp only [tickWith, hsched, cpuStepWith_of_idle hidle]
    rfl

/-- Settles O36: WAI is a change of the CPU; with I set a waiting CPU takes no request and steps as above. -/
theorem waitForInterrupt : Obligations.WaitForInterrupt := by
  unfold Obligations.WaitForInterrupt
  refine ⟨changesCpu_of_implied (fun _ => rfl) (fun _ => rfl) fun _ => rfl, fun s hcfg hscript hwait hi hnmi => ?_⟩
  have hidle : s.idle = true := by rw [State.idle, hwait, Bool.true_or]
  have hpoll : poll s = s := poll_of_no_request hnmi (by rw [hi, Bool.not_true, Bool.and_false])
  exact ⟨_, (step_of_script_nil hcfg hscript).trans (tickWith_of_idle hidle hpoll), rfl, rfl,
    Video.steps_vram _ _ _, rfl, rfl, rfl⟩

/-! ### The interrupt request and its poll (R545 to R547) -/

/-- Bit by bit: the three status bits, then the live input, each under its enable. -/
theorem videoIrq_iff (s : State) :
    videoIrq s = true ↔ (∃ k, k < 3 ∧ s.video.isr.getLsbD k = true ∧ s.video.ien.getLsbD k = true) ∨
      (s.pins.pcmFifoLow = true ∧ s.video.ien.getLsbD 3 = true) := by
  have hstatus : ∀ k < 8, (0x07#8).getLsbD k = decide (k < 3) := by decide
  have hlive : ∀ p : Bool, ∀ k < 8, (if p then 0x08#8 else 0x00#8).getLsbD k = (p && decide (k = 3)) := by decide
  have hbit (k : Nat) (hk : k < 8) : (((s.video.isr &&& 0x07#8) ||| (if s.pins.pcmFifoLow then 0x08#8 else 0x00#8)) &&&
      s.video.ien.setWidth 8).getLsbD k =
      ((s.video.isr.getLsbD k && decide (k < 3) || s.pins.pcmFifoLow && decide (k = 3)) && s.video.ien.getLsbD k) := by
    rw [BitVec.getLsbD_and, BitVec.getLsbD_or, BitVec.getLsbD_and, hstatus k hk, hlive _ k hk, BitVec.getLsbD_setWidth,
      decide_eq_true hk, Bool.true_and]
  rw [videoIrq, decide_eq_true_iff]
  constructor
  · intro hne
    by_contra hnone
    rw [not_or, not_exists] at hnone
    obtain ⟨hbits, hpcm⟩ := hnone
    refine hne (BitVec.eq_of_getLsbD_eq fun k hk => ?_)
    rw [hbit k hk, show BitVec.getLsbD (0 : Byte) k = false from BitVec.getLsbD_zero]
    by_contra hk'
    simp only [Bool.not_eq_false, Bool.and_eq_true, Bool.or_eq_true, decide_eq_true_iff] at hk'
    obtain ⟨⟨hisr, hlt⟩ | ⟨hlow, rfl⟩, hien⟩ := hk'
    · exact hbits k ⟨hlt, hisr, hien⟩
    · exact hpcm ⟨hlow, hien⟩
  · intro h hzero
    rcases h with ⟨k, hk, hisr, hien⟩ | ⟨hlow, hien⟩
    · have := hbit k (by omega)
      rw [hzero, hisr, hien, decide_eq_true hk] at this
      simp at this
    · have := hbit 3 (by omega)
      rw [hzero, hlow, hien] at this
      simp at this

theorem irqLevel_iff (s : State) :
    irqLevel s = true ↔ s.pins.extIrq = true ∨
      (∃ k, k < 3 ∧ s.video.isr.getLsbD k = true ∧ s.video.ien.getLsbD k = true) ∨
      (s.pins.pcmFifoLow = true ∧ s.video.ien.getLsbD 3 = true) := by
  rw [irqLevel, Bool.or_eq_true, videoIrq_iff, or_comm]

theorem takeTrap_pins (k : Trap) (s : State) : (takeTrap k s).pins = s.pins := by
  obtain ⟨hframe, -⟩ := takeTrap_entered k s
  rw [hframe]

theorem poll_of_nmi {s : State} (h : 0 < s.pins.nmiRequests) :
    poll s = { takeTrap .nmi s with pins := { s.pins with nmiRequests := s.pins.nmiRequests - 1 } } := by
  rw [poll, if_pos h, State.answerNmi, takeTrap_pins]

theorem poll_of_irq {s : State} (hnmi : s.pins.nmiRequests = 0) (hlevel : irqLevel s = true) (hi : s.cpu.p.i = false) :
    poll s = takeTrap .irq s := by
  rw [poll, if_neg (by omega), if_pos (by rw [hlevel, hi]; rfl)]

/-- Settles O44: the level bit by bit, the poll by its three branches, the machine step by its definition. -/
theorem interruptRequestLevel : Obligations.InterruptRequestLevel := by
  unfold Obligations.InterruptRequestLevel
  intro s
  refine ⟨irqLevel_iff s, fun hnmi => congrArg (cpuStepWith exec) (poll_of_nmi hnmi),
    fun hnmi hlevel hi => congrArg (cpuStepWith exec) (poll_of_irq hnmi hlevel hi), fun hnmi hno => ?masked,
    fun hcfg hscript hsched => ?tick⟩
  case masked =>
    refine congrArg (cpuStepWith exec) (poll_of_no_request hnmi ?_)
    rcases hno with hlevel | hi
    · rw [hlevel, Bool.false_and]
    · rw [hi, Bool.not_true, Bool.and_false]
  case tick =>
    obtain ⟨t, ht, -⟩ := cpuStepWith_keepsGoal (poll s)
    refine ⟨t, ht, ?_⟩
    rw [step_of_script_nil hcfg hscript]
    simp only [tickWith, hsched, machineTickWith, cpuTickWith, ht]
    rfl

end Sys2Proof.Machine

/-! Addresses and registers on the BUS: the effective address of every mode (`30_encoding.md` R153 to R162), the banks of
RAM (`20_memory.md` R105, R107) and the emulator registers (`52_io_devices.md` R505, R506). -/

namespace Sys2Proof.Machine

open Sys2Proof.Config Sys2Proof.Claims

/-! ### Effective addresses (R153 to R162) -/

theorem add_zext16_toNat (a : Word) (x : Byte) : (a + zext16 x).toNat = (a.toNat + x.toNat) % 65536 := by
  rw [BitVec.toNat_add, zext16_toNat]

/-- The pointer of page zero, low byte first, its second byte wrapping inside the page. -/
theorem read16Zp_toNat (z : Byte) (s : State) :
    (read16Zp z s).toNat =
      (s.bus.ram.read z.toNat).toNat + 256 * (s.bus.ram.read ((z.toNat + 1) % 256)).toNat := by
  rw [read16Zp, wordOf_toNat, readZp_eq, readZp_eq, BitVec.toNat_add, Nat.add_comm]
  rfl

/-- An indexed 16-bit sum leaves the page of its base exactly when the low bytes carry. -/
theorem pageCross_add_iff (a : Word) (x : Byte) :
    pageCross a (a + zext16 x) = true ↔ a.toNat % 256 + x.toNat ≥ 256 := by
  have ha := a.isLt
  have hx := x.isLt
  rw [pageCross_eq_decide, decide_eq_true_iff, add_zext16_toNat]
  omega

/-- Settles O38: each mode on numbers. -/
theorem effectiveAddresses : Obligations.EffectiveAddresses := by
  unfold Obligations.EffectiveAddresses
  intro s z a zp
  have hzp {n : Nat} (hn : n < 256) : zp n = (s.bus.ram.read n).toNat := by
    show (s.bus.ram.read (n % 256)).toNat = _
    rw [Nat.mod_eq_of_lt hn]
  have hptr : (read16Zp z s).toNat = zp z.toNat + 256 * zp (z.toNat + 1) := by rw [read16Zp_toNat, hzp z.isLt]
  refine ⟨zext16_toNat z, ?zpX, ?zpY, rfl, add_zext16_toNat a _, add_zext16_toNat a _, hptr, ?indX, ?indY,
    pageCross_add_iff a _, pageCross_add_iff a _, ?indYCross, rfl, rfl, rfl, rfl, rfl, rfl⟩
  case zpX => exact (zext16_toNat _).trans (BitVec.toNat_add _ _)
  case zpY => exact (zext16_toNat _).trans (BitVec.toNat_add _ _)
  case indX =>
    refine (read16Zp_toNat (z + s.cpu.x) s).trans ?_
    rw [BitVec.toNat_add, Nat.mod_add_mod]
  case indY => exact (add_zext16_toNat _ _).trans (by rw [hptr])
  case indYCross =>
    have hlow : (read16Zp z s).toNat % 256 = zp z.toNat := by
      have : zp z.toNat < 256 := (s.bus.ram.read (z.toNat % 256)).isLt
      omega
    exact (pageCross_add_iff _ _).trans (by rw [hlow])

/-! ### Banks of RAM (R96, R105, R107) -/

/-- What a banked address reads after a bank has been selected. -/
theorem memRead_setRamBank {a : Word} (h : region a = .bankedRam) (n : Nat) (s : State) :
    (memRead a (setRamBank n s)).1 = s.bus.bram.read (bramIndex s.cfg (n % 2 ^ s.cfg.ramBankRegWidth) a) := by
  rw [memRead_of_bankedRam h]
  rfl

/-- A write to a banked address after a bank has been selected. -/
theorem memWrite_setRamBank {a : Word} (h : region a = .bankedRam) (n : Nat) (v : Byte) (s : State) :
    memWrite a v (setRamBank n s) = { s with bus := { s.bus with
      ramBank := n % 2 ^ s.cfg.ramBankRegWidth
      bram := s.bus.bram.write (bramIndex s.cfg (n % 2 ^ s.cfg.ramBankRegWidth) a) v } } := by
  rw [memWrite_of_bankedRam h]
  rfl

/-- One address selects one byte in two banks exactly when their numbers are congruent. -/
theorem bramIndex_eq_iff (cfg : Params) (b c : Nat) (a : Word) :
    bramIndex cfg b a = bramIndex cfg c a ↔ b % cfg.numRamBanks = c % cfg.numRamBanks := by
  constructor
  · exact fun h => Nat.eq_of_mul_eq_mul_right (Nat.succ_pos 0x1FFF) (Nat.add_right_cancel h)
  · exact congrArg fun m => m * 0x2000 + (a.toNat - 0xA000)

/-- Settles O41: congruent bank numbers select one cell, others different ones. -/
theorem banksAreReducedModuloTheirCount : Obligations.BanksAreReducedModuloTheirCount := by
  unfold Obligations.BanksAreReducedModuloTheirCount
  intro s a v w b c d _ hlo hhi
  have hr : region a = .bankedRam := region_bankedRam.mpr ⟨hlo, by omega⟩
  refine ⟨fun _ => rfl, fun hsame => ?_, fun hother => ?_⟩
  · rw [memRead_setRamBank hr, memWrite_setRamBank hr, Memory.read_write,
      if_pos ((bramIndex_eq_iff _ _ _ a).mpr hsame.symm)]
  · rw [memRead_setRamBank hr, memWrite_setRamBank hr, memWrite_setRamBank hr, Memory.read_write,
      if_neg (fun h => hother ((bramIndex_eq_iff _ _ _ a).mp h)), Memory.read_write_same]

/-! ### The emulator registers (R505, R506) -/

/-- The address of emulator register `k`. -/
def emuAddr (k : Nat) : Word := 0x9FB0 + BitVec.ofNat 16 k

theorem emuAddr_selects : ∀ k < 16, region (emuAddr k) = .io ∧ ioDevice (loByte (emuAddr k)) = .emu ∧
    low4 (loByte (emuAddr k)) = k := by
  decide

theorem memRead_emuAddr {k : Nat} (hk : k < 16) (s : State) : memRead (emuAddr k) s = (emuRead k s, s) := by
  obtain ⟨hio, hdev, hreg⟩ := emuAddr_selects k hk
  rw [memRead_of_io hio]
  simp only [ioRead, hdev, hreg]

theorem memWrite_emuAddr {k : Nat} (hk : k < 16) (v : Byte) (s : State) :
    memWrite (emuAddr k) v s = { s with emu := s.emu.write k v } := by
  obtain ⟨hio, hdev, hreg⟩ := emuAddr_selects k hk
  rw [memWrite_of_io hio]
  simp only [ioWrite, hdev, hreg]

theorem counterByte_toNat (c : Counter) (k : Nat) : (counterByte c k).toNat = c.toNat / 256 ^ k % 256 := by
  rw [counterByte, extractLsb'_toNat_eq, Nat.pow_mul]
  rfl

/-- The stored registers after a write, one field for each register. -/
theorem Emu.write_eq (e : Emu) {k : Nat} (hk : k < 16) (v : Byte) :
    e.write k v = {
      debug := if k = 0 then v else e.debug
      logVideo := if k = 1 then v else e.logVideo
      logKeyboard := if k = 2 then v else e.logKeyboard
      echo := if k = 3 then v else e.echo
      saveOnExit := if k = 4 then v else e.saveOnExit
      gifCmd := if k = 5 then v else e.gifCmd
      keymap := if k = 13 then v else e.keymap
      led := if k = 15 then v else e.led } := by
  interval_cases k <;> rfl

/-- Settles O43: every access is one of the register that the low four bits of the address name. -/
theorem emulatorRegisters : Obligations.EmulatorRegisters := by
  unfold Obligations.EmulatorRegisters
  intro s v
  refine ⟨fun k hk => ?back, fun k hk => ?cycles, ?version, ?identity, fun k hk => ?invalid,
    fun k hk => congrArg Prod.snd (memRead_emuAddr (by omega) s), fun k hk => ?write, fun k hk => ?ignored,
    fun k j hk hj hne => ?others⟩
  case back =>
    show (memRead (emuAddr k) (memWrite (emuAddr k) v s)).1 = v
    rw [memRead_emuAddr (by omega), memWrite_emuAddr (by omega)]
    obtain h | rfl := hk
    · interval_cases k <;> rfl
    · rfl
  case cycles =>
    have haddr : (0x9FB8 : Word) + BitVec.ofNat 16 k = emuAddr (8 + k) := by
      rw [emuAddr, BitVec.ofNat_add, ← BitVec.add_assoc]
      rfl
    rw [haddr, memRead_emuAddr (by omega), ← counterByte_toNat]
    interval_cases k <;> rfl
  case version => exact congrArg Prod.fst (memRead_emuAddr (k := 14) (by omega) s)
  case identity => exact congrArg Prod.fst (memRead_emuAddr (k := 15) (by omega) s)
  case invalid =>
    refine (congrArg Prod.fst (memRead_emuAddr (k := k) (by omega) s)).trans ?_
    obtain rfl | rfl | rfl := hk <;> rfl
  case write => exact (memWrite_emuAddr (by omega) v s).trans (by rw [Emu.write_eq _ (by omega)])
  case ignored =>
    refine (memWrite_emuAddr (by omega) v s).trans ?_
    obtain ⟨hlo, hhi⟩ | rfl := hk
    · interval_cases k <;> rfl
    · rfl
  case others =>
    show (memRead (emuAddr j) (memWrite (emuAddr k) v s)).1 = (memRead (emuAddr j) s).1
    rw [memRead_emuAddr (by omega), memRead_emuAddr (by omega), memWrite_emuAddr (by omega), Emu.write_eq _ (by omega)]
    interval_cases j <;> simp [emuRead, hne.symm]

end Sys2Proof.Machine

/-! The two cursors and the data ports (`50_video_registers.md` R366 to R375). -/

namespace Sys2Proof.Machine

open Sys2Proof.Config Sys2Proof.Claims

/-! ### Cursors (R366 to R375) -/

@[simp] theorem Video.setCursor_setCursor (v : Video) (one : Bool) (c d : Cursor) :
    (v.setCursor one c).setCursor one d = v.setCursor one d := by cases one <;> rfl

@[simp] theorem Video.setCursor_addrsel (v : Video) (one : Bool) (c : Cursor) :
    (v.setCursor one c).addrsel = v.addrsel := by cases one <;> rfl

/-- Reloading a latch is one change of its cursor (R369). -/
theorem Video.reloadLatch_setCursor (v : Video) (one : Bool) (c : Cursor) :
    (v.setCursor one c).reloadLatch one = v.setCursor one { c with latch := v.vram.read c.addr.toNat } := by
  simp only [Video.reloadLatch, Video.cursor_setCursor_same, Video.setCursor_setCursor, Video.vspaceRead,
    Video.setCursor_vram]

/-- The address after an access, on numbers modulo 2^17 (R371, R375). -/
def Cursor.nextAddr (c : Cursor) : VAddr := BitVec.ofInt 17 (c.addr.toNat + steps.getD c.inc.toNat 0)

theorem Cursor.add_incStep (c : Cursor) : c.addr + BitVec.ofInt 17 (incStep c.inc) = c.nextAddr := by
  have hsteps : incTable = steps := rfl
  rw [Cursor.nextAddr, BitVec.ofInt_add, BitVec.ofInt_natCast, BitVec.ofNat_toNat, BitVec.setWidth_eq, incStep, hsteps]

/-- The access of a data port moves its cursor and loads the latch from there; nothing else changes (R373 to R375). -/
theorem Video.advance_eq (v : Video) (one : Bool) :
    v.advance one = v.setCursor one { v.cursor one with
      addr := (v.cursor one).nextAddr, latch := v.vram.read (v.cursor one).nextAddr.toNat } := by
  rw [Video.advance, Video.reloadLatch_setCursor, Cursor.add_incStep]

/-! ### Data ports (R373, R374) -/

/-- The address of a data port. -/
def portAddr (port : Bool) : Word := if port then 0x9F24 else 0x9F23

theorem portAddr_selects (port : Bool) : region (portAddr port) = .io ∧ ioDevice (loByte (portAddr port)) = .video ∧
    videoReg (low5 (loByte (portAddr port))) = .data port := by
  revert port
  decide

theorem memRead_portAddr (port : Bool) (s : State) :
    memRead (portAddr port) s =
      ((s.video.cursor (s.video.portCursor s.cfg port)).latch,
        { s with video := s.video.advance (s.video.portCursor s.cfg port) }) := by
  obtain ⟨hio, hdev, hreg⟩ := portAddr_selects port
  rw [memRead_of_io hio]
  simp only [ioRead, hdev, videoRead, hreg]

theorem memWrite_portAddr (port : Bool) (v : Byte) (s : State) :
    memWrite (portAddr port) v s = dataPortWrite port v s := by
  obtain ⟨hio, hdev, hreg⟩ := portAddr_selects port
  rw [memWrite_of_io hio]
  simp only [ioWrite, hdev, videoWrite, hreg]

/-- A write through a cursor: the byte at the old address, then the access moves the cursor (R374). -/
theorem Video.portWrite_eq (v : Video) (one : Bool) (b : Byte) :
    v.portWrite one b =
      { v.setCursor one { v.cursor one with
          addr := (v.cursor one).nextAddr
          latch := (v.vram.write (v.cursor one).addr.toNat b).read (v.cursor one).nextAddr.toNat } with
        vram := v.vram.write (v.cursor one).addr.toNat b } := by
  rw [Video.portWrite, Video.advance_eq]
  cases one <;> rfl

theorem psgRegister_cases (a : VAddr) :
    ((0x1F9C0 ≤ a.toNat ∧ a.toNat ≤ 0x1F9FF) ∧ psgRegister a = some (a.toNat - 0x1F9C0)) ∨
      (¬(0x1F9C0 ≤ a.toNat ∧ a.toNat ≤ 0x1F9FF) ∧ psgRegister a = none) := by
  by_cases h : 0x1F9C0 ≤ a.toNat ∧ a.toNat ≤ 0x1F9FF
  · exact .inl ⟨h, if_pos h⟩
  · exact .inr ⟨h, if_neg h⟩

/-- The write is told to the sound generator in its range (R370; log 12). -/
theorem dataPortWrite_eq (port : Bool) (v : Byte) (s : State) :
    dataPortWrite port v s =
      let c := s.video.portCursor s.cfg port
      let addr := (s.video.cursor c).addr.toNat
      { s with
        video := s.video.portWrite c v
        ext := if 0x1F9C0 ≤ addr ∧ addr ≤ 0x1F9FF then .write .psg (addr - 0x1F9C0) v :: s.ext else s.ext } := by
  rcases psgRegister_cases (s.video.cursor (s.video.portCursor s.cfg port)).addr with ⟨hrange, hreg⟩ | ⟨hrange, hreg⟩
  · simp only [dataPortWrite, hreg]
    rw [if_pos hrange, extWrite]
  · simp only [dataPortWrite, hreg]
    rw [if_neg hrange]

/-- Settles O51: both accesses through the one equation of the cursor. -/
theorem dataPortAccess : Obligations.DataPortAccess := by
  unfold Obligations.DataPortAccess
  intro port v s a one c addr
  have hread : memRead a s = (c.latch, { s with video := s.video.advance one }) := memRead_portAddr port s
  have hwrite := (memWrite_portAddr port v s).trans (dataPortWrite_eq port v s)
  have hvideo := s.video.portWrite_eq one v
  rw [hread, Video.advance_eq]
  refine ⟨rfl, rfl, _, hwrite, rfl, fun k => ?bytes, ?video, rfl⟩
  case bytes => exact (congrArg (fun w => w.vram.read k) hvideo).trans (Memory.read_write _ _ k v)
  case video =>
    show s.video.portWrite one v =
      { s.video.setCursor one { c with addr := addr, latch := (s.video.portWrite one v).vram.read addr.toNat } with
        vram := (s.video.portWrite one v).vram }
    rw [hvideo]
    rfl

/-! ### Setting a cursor (R366 to R369) -/

theorem selectsPlain_addrL : SelectsPlain 0x9F20 .addrL := by and_intros <;> decide

theorem selectsPlain_addrM : SelectsPlain 0x9F21 .addrM := by and_intros <;> decide

theorem selectsPlain_addrH : SelectsPlain 0x9F22 .addrH := by and_intros <;> decide

theorem Video.writeAddr_eq (v : Video) (f : Cursor → Cursor) :
    v.writeAddr f = v.setCursor v.addrsel { f (v.cursor v.addrsel) with
      latch := v.vram.read (f (v.cursor v.addrsel)).addr.toNat } :=
  v.reloadLatch_setCursor v.addrsel _

/-- Two address bytes one after the other are one change of the cursor, if the second keeps what the first loaded. -/
theorem Video.writeAddr_writeAddr (v : Video) (f g : Cursor → Cursor)
    (hg : ∀ c b, g { c with latch := b } = { g c with latch := b }) :
    (v.writeAddr f).writeAddr g = v.writeAddr (g ∘ f) := by
  rw [Video.writeAddr_eq v f, Video.writeAddr_eq _ g, Video.setCursor_addrsel, Video.cursor_setCursor_same,
    Video.setCursor_setCursor, Video.setCursor_vram, hg]
  exact (v.writeAddr_eq (g ∘ f)).symm

/-- The three address bytes put together, and the increment code from the high one. -/
theorem Cursor.write_low_mid_high (l m h : Byte) (c : Cursor) :
    ((c.writeLow l).writeMid m).writeHigh h =
      { c with
        addr := BitVec.ofNat 17 (65536 * (h.toNat % 2) + 256 * m.toNat + l.toNat)
        inc := BitVec.ofNat 5 (h.toNat / 8) } := by
  have hl := l.isLt
  have hm := m.isLt
  have hh := h.isLt
  have hinc : h.extractLsb' 3 5 = BitVec.ofNat 5 (h.toNat / 8) := by
    apply BitVec.eq_of_toNat_eq
    rw [extractLsb'_toNat_eq, BitVec.toNat_ofNat]
    rfl
  rw [Cursor.writeHigh, Cursor.writeMid, Cursor.writeLow, hinc]
  congr 1
  apply BitVec.eq_of_toNat_eq
  simp only [append_toNat_eq, extractLsb'_toNat_eq, BitVec.toNat_ofNat]
  omega

/-- Settles O52: the three stores are one change of the selected cursor, which the registers then show. -/
theorem cursorSetUp : Obligations.CursorSetUp := by
  unfold Obligations.CursorSetUp
  intro l m h s one addr t c
  have ht : t = { s with video := s.video.setCursor one c } := by
    show memWrite 0x9F22 h (memWrite 0x9F21 m (memWrite 0x9F20 l s)) = _
    rw [memWrite_of_selectsPlain selectsPlain_addrL, memWrite_of_selectsPlain selectsPlain_addrM,
      memWrite_of_selectsPlain selectsPlain_addrH]
    simp only [Video.regWrite]
    rw [Video.writeAddr_writeAddr _ _ _ (fun _ _ => rfl), Video.writeAddr_writeAddr _ _ _ (fun _ _ => rfl),
      Video.writeAddr_eq]
    simp only [Function.comp, Cursor.write_low_mid_high]
    rfl
  have hl := l.isLt
  have hm := m.isLt
  have hh := h.isLt
  have haddr : addr.toNat = 65536 * (h.toNat % 2) + 256 * m.toNat + l.toNat := by
    rw [BitVec.toNat_ofNat]
    omega
  have hcursor : (s.video.setCursor one c).cursor (s.video.setCursor one c).addrsel = c := by
    rw [Video.setCursor_addrsel]
    exact s.video.cursor_setCursor_same one c
  refine ⟨ht, ?low, ?mid, ?high⟩
  case low =>
    rw [memRead_of_selectsPlain selectsPlain_addrL, ht]
    simp only [Video.regRead, hcursor]
    apply BitVec.eq_of_toNat_eq
    rw [extractLsb'_toNat_eq, haddr]
    omega
  case mid =>
    rw [memRead_of_selectsPlain selectsPlain_addrM, ht]
    simp only [Video.regRead, hcursor]
    apply BitVec.eq_of_toNat_eq
    rw [extractLsb'_toNat_eq, haddr]
    omega
  case high =>
    have fields : ∀ b : Byte, b.extractLsb' 3 5 ++ 0#2 ++ b.extractLsb' 0 1 = b &&& 0xF9 := by decide
    have hinc : c.inc = h.extractLsb' 3 5 := by
      apply BitVec.eq_of_toNat_eq
      rw [extractLsb'_toNat_eq, BitVec.toNat_ofNat]
      rfl
    have htop : addr.extractLsb' 16 1 = h.extractLsb' 0 1 := by
      apply BitVec.eq_of_toNat_eq
      rw [extractLsb'_toNat_eq, extractLsb'_toNat_eq, haddr]
      omega
    rw [memRead_of_selectsPlain selectsPlain_addrH, ht, ← fields h, ← hinc, ← htop]
    simp only [Video.regRead, hcursor]
    rfl

end Sys2Proof.Machine

/-! The composer and layer registers (`50_video_registers.md` R389, R399) and the line at which the raster bit comes
(`51_renderer.md` R483). -/

namespace Sys2Proof.Machine

open Sys2Proof.Config Sys2Proof.Claims

/-! ### Composer and layer registers (R389, R399) -/

theorem Composer.get_set (c : Composer) (v : Byte) : ∀ k < 8, ∀ j < 8,
    (c.set k v).get j = if j = k then v else c.get j := by
  intro k hk j hj
  interval_cases k <;> interval_cases j <;> rfl

theorem Layer.get_set (l : Layer) (v : Byte) : ∀ k < 7, ∀ j < 7,
    (l.set k v).get j = if j = k then v else l.get j := by
  intro k hk j hj
  interval_cases k <;> interval_cases j <;> rfl

/-- A store to the bank of `dcsel = 0` leaves the four registers of the other bank. -/
theorem Composer.set_low (c : Composer) {k : Nat} (hk : k < 4) (v : Byte) :
    (c.set k v).hstart = c.hstart ∧ (c.set k v).hstop = c.hstop ∧ (c.set k v).vstart = c.vstart ∧
      (c.set k v).vstop = c.vstop := by
  interval_cases k <;> exact ⟨rfl, rfl, rfl, rfl⟩

/-- A store to the bank of `dcsel = 1` leaves the four registers of the other bank. -/
theorem Composer.set_high (c : Composer) {k : Nat} (hk : k < 4) (v : Byte) :
    (c.set (4 + k) v).video = c.video ∧ (c.set (4 + k) v).hscale = c.hscale ∧ (c.set (4 + k) v).vscale = c.vscale ∧
      (c.set (4 + k) v).border = c.border := by
  interval_cases k <;> exact ⟨rfl, rfl, rfl, rfl⟩

/-- The register that the address $9F00 + k selects, for k from $29 to $3A. -/
def pictureReg (k : Nat) : VideoReg :=
  if k ≤ 0x2C then .dc (k - 0x29) else if k ≤ 0x33 then .layer false (k - 0x2D) else .layer true (k - 0x34)

theorem selectsPlain_pictureReg {k : Nat} (hlo : 0x29 ≤ k) (hhi : k ≤ 0x3A) :
    SelectsPlain (0x9F00 + BitVec.ofNat 16 k) (pictureReg k) := by
  have hall : ∀ k < 0x3B, 0x29 ≤ k → SelectsPlain (0x9F00 + BitVec.ofNat 16 k) (pictureReg k) := by
    unfold SelectsPlain
    decide
  exact hall k (by omega) hlo

/-- The three kinds of address with their registers. -/
theorem pictureReg_cases {k : Nat} (hlo : 0x29 ≤ k) (hhi : k ≤ 0x3A) :
    (∃ i, i < 4 ∧ k = 0x29 + i ∧ pictureReg k = .dc i) ∨ (∃ i, i < 7 ∧ k = 0x2D + i ∧ pictureReg k = .layer false i) ∨
      (∃ i, i < 7 ∧ k = 0x34 + i ∧ pictureReg k = .layer true i) := by
  unfold pictureReg
  split
  · exact .inl ⟨k - 0x29, by omega, by omega, rfl⟩
  · split
    · exact .inr (.inl ⟨k - 0x2D, by omega, by omega, rfl⟩)
    · exact .inr (.inr ⟨k - 0x34, by omega, by omega, rfl⟩)

theorem Video.dcIndex_lt (v : Video) {i : Nat} (hi : i < 4) : v.dcIndex i < 8 := by
  have := Bool.toNat_le v.dcsel
  unfold Video.dcIndex
  omega

/-- Register `j` of the range after a store to register `k`. -/
theorem regRead_regWrite_pictureReg (v : Video) (cfg : Params) (p : Bool) (b : Byte) {k j : Nat} (hk : 0x29 ≤ k)
    (hk' : k ≤ 0x3A) (hj : 0x29 ≤ j) (hj' : j ≤ 0x3A) :
    (v.regWrite cfg (pictureReg k) b).regRead cfg p (pictureReg j) =
      if j = k then b else v.regRead cfg p (pictureReg j) := by
  obtain ⟨i, hi, rfl, hri⟩ | ⟨i, hi, rfl, hri⟩ | ⟨i, hi, rfl, hri⟩ := pictureReg_cases hk hk' <;>
    obtain ⟨n, hn, rfl, hrn⟩ | ⟨n, hn, rfl, hrn⟩ | ⟨n, hn, rfl, hrn⟩ := pictureReg_cases hj hj' <;>
    rw [hri, hrn]
  case inl.inl =>
    refine (v.composer.get_set b _ (v.dcIndex_lt hi) _ (v.dcIndex_lt hn)).trans ?_
    simp only [Video.dcIndex, Nat.add_left_cancel_iff]
    rfl
  case inr.inl.inr.inl =>
    refine (v.layer0.get_set b _ hi _ hn).trans ?_
    simp only [Nat.add_left_cancel_iff]
    rfl
  case inr.inr.inr.inr =>
    refine (v.layer1.get_set b _ hi _ hn).trans ?_
    simp only [Nat.add_left_cancel_iff]
    rfl
  -- the two registers stand in different groups
  all_goals
    rw [if_neg (by omega)]
    rfl

/-- Settles O54: a store sets one entry of the composer or of one layer. -/
theorem composerAndLayerRegistersReadBack : Obligations.ComposerAndLayerRegistersReadBack := by
  unfold Obligations.ComposerAndLayerRegistersReadBack
  intro k j v s hk hk' hj hj' t
  have ht : t = { s with video := s.video.regWrite s.cfg (pictureReg k) v } :=
    memWrite_of_selectsPlain (selectsPlain_pictureReg hk hk') v s
  have hread : (memRead (0x9F00 + BitVec.ofNat 16 j) t).1 =
      if j = k then v else (memRead (0x9F00 + BitVec.ofNat 16 j) s).1 := by
    have hsel := selectsPlain_pictureReg hj hj'
    rw [memRead_of_selectsPlain hsel, memRead_of_selectsPlain hsel, ht]
    exact regRead_regWrite_pictureReg _ _ _ v hk hk' hj hj'
  refine ⟨hread, ?_⟩
  obtain ⟨i, hi, rfl, hri⟩ | ⟨i, hi, rfl, hri⟩ | ⟨i, hi, rfl, hri⟩ := pictureReg_cases hk hk' <;> rw [hri] at ht
  case inl =>
    have hvideo : t.video = { s.video with composer := s.video.composer.set (s.video.dcIndex i) v } := by rw [ht]; rfl
    rw [hvideo]
    refine ⟨ht, fun _ => ⟨rfl, rfl⟩, fun h => absurd h (by omega), fun hsel => ?_, fun hsel => ?_, fun _ => rfl,
      fun _ => rfl⟩
    · have hindex : s.video.dcIndex i = i := by simp [Video.dcIndex, hsel]
      rw [hindex]
      exact s.video.composer.set_low hi v
    · have hindex : s.video.dcIndex i = 4 + i := by simp [Video.dcIndex, hsel]
      rw [hindex]
      exact s.video.composer.set_high hi v
  case inr.inl =>
    have hvideo : t.video = { s.video with layer0 := s.video.layer0.set i v } := by rw [ht]; rfl
    rw [hvideo]
    exact ⟨ht, fun h => absurd h (by omega), fun _ => rfl, fun _ => ⟨rfl, rfl, rfl, rfl⟩, fun _ => ⟨rfl, rfl, rfl, rfl⟩,
      fun _ => rfl, fun h => absurd h (by omega)⟩
  case inr.inr =>
    have hvideo : t.video = { s.video with layer1 := s.video.layer1.set i v } := by rw [ht]; rfl
    rw [hvideo]
    exact ⟨ht, fun h => absurd h (by omega), fun _ => rfl, fun _ => ⟨rfl, rfl, rfl, rfl⟩, fun _ => ⟨rfl, rfl, rfl, rfl⟩,
      fun h => absurd h (by omega), fun _ => rfl⟩

/-! ### The raster line (R433, R483) -/

theorem Video.SameRegisters.irqLine {v w : Video} (h : v.SameRegisters w) : w.irqLine = v.irqLine := by
  obtain ⟨x, y, n, isr, mask, fb, rfl⟩ := h
  rfl

/-- Before its last line the frame goes on by one line. -/
theorem Video.lineStep_scanY_of_ne {cfg : Params} {v : Video} (h : v.scanY + 1 ≠ cfg.scanHeight) :
    (v.lineStep cfg).scanY = v.scanY + 1 := by
  rw [Video.lineStep_eq]
  exact if_neg h

/-- The raster bit after a line step before the last line, where the enable is not asked for. -/
theorem Video.lineStep_rasterBit {cfg : Params} {v : Video} (h : v.scanY + 1 ≠ cfg.scanHeight)
    (hen : cfg.rasterNeedsEnable = false) :
    testBit (v.lineStep cfg).isr 1 =
      (testBit v.isr 1 || decide (Video.effLine { v with scanY := v.scanY + 1 } cfg = v.irqLine.toNat)) := by
  rw [testBit, v.lineStep_getLsbD_isr cfg (by omega), Video.signalsLine, Video.nextLine_of_ne h, hen]
  simp [testBit]

/-- Effective lines follow the scan lines. -/
theorem Video.effLine_of_scanY {cfg : Params} {v w : Video} (hc : w.composer = v.composer) {n : Nat}
    (hy : w.scanY = v.scanY + n) : w.effLine cfg = v.effLine cfg + n := by
  have hntsc : w.ntsc = v.ntsc := by simp only [Video.ntsc, hc]
  rw [Video.effLine, Video.effLine, hntsc, hy]
  omega

theorem Video.effLine_next {cfg : Params} {v w : Video} (hc : w.composer = v.composer) {n : Nat}
    (hy : w.scanY = v.scanY + n) : Video.effLine { w with scanY := w.scanY + 1 } cfg = v.effLine cfg + n + 1 := by
  have hnext := Video.effLine_of_scanY (cfg := cfg) (w := { w with scanY := w.scanY + 1 }) (n := n + 1) hc
    (congrArg (· + 1) hy)
  rw [hnext]
  omega

/-- The first visible line stands far enough before the end of the frame. -/
theorem Video.scanY_le_of_effLine_zero {v : Video} (h : v.effLine Params.default = 0) : v.scanY ≤ 22 := by
  have hvga : Params.default.frontPorchVga = 10 := rfl
  have hntsc : Params.default.frontPorchNtsc = 22 := rfl
  rw [Video.effLine, hvga, hntsc] at h
  split at h <;> omega

/-- After `n` line steps from the first visible line: the registers are the same, `n` lines have passed, and the raster
bit is set exactly when the compare line has been one of them. -/
theorem Video.lineSteps_from_first_line {v : Video} (h0 : v.effLine Params.default = 0)
    (hclear : testBit v.isr 1 = false) (n : Nat) (hn : n ≤ 479) :
    v.SameRegisters (n.repeat (Video.lineStep Params.default) v) ∧
      (n.repeat (Video.lineStep Params.default) v).scanY = v.scanY + n ∧
      testBit (n.repeat (Video.lineStep Params.default) v).isr 1 =
        decide (1 ≤ v.irqLine.toNat ∧ v.irqLine.toNat ≤ n) := by
  induction n with
  | zero =>
    refine ⟨Video.SameRegisters.refl v, rfl, hclear.trans ?_⟩
    rw [eq_comm, decide_eq_false_iff_not]
    omega
  | succ n ih =>
    obtain ⟨hsame, hy, hbit⟩ := ih (by omega)
    have hfirst := v.scanY_le_of_effLine_zero h0
    have hheight : Params.default.scanHeight = 525 := rfl
    have hne : (n.repeat (Video.lineStep Params.default) v).scanY + 1 ≠ Params.default.scanHeight := by omega
    refine ⟨hsame.trans (Video.lineStep_sameRegisters _ _), (Video.lineStep_scanY_of_ne hne).trans (by omega), ?_⟩
    refine (Video.lineStep_rasterBit hne rfl).trans ?_
    rw [hbit, Video.effLine_next hsame.composer hy, h0, hsame.irqLine, ← Bool.decide_or, decide_eq_decide]
    omega

/-- Settles O56: the compare line is passed by the line step of its number and by none before. -/
theorem lineInterruptAtItsLine : Obligations.LineInterruptAtItsLine := by
  unfold Obligations.LineInterruptAtItsLine
  intro v n h0 hclear hlo hhi hn
  obtain ⟨-, -, hbit⟩ := Video.lineSteps_from_first_line h0 hclear n (by omega)
  rw [hbit, decide_eq_decide]
  omega

end Sys2Proof.Machine
